-- ==== Sys2Proof/Word.lean ====
section
/-! DEFINITION. The three widths the machine moves: bytes, 16-bit words, 20-bit physical addresses
(spec/00_scope.md R7: `REG_WIDTH` = 16, `PHYS_WIDTH` = 20, `PORT_WIDTH` = 16). -/

namespace Sys2Proof

/-- A byte: an 8-bit register view, a memory cell, a port datum. -/
abbrev Byte := BitVec 8

/-- A 16-bit word: a register, IP, an offset, a segment value, a port number (R7, R20, R24, R26). -/
abbrev Word := BitVec 16

/-- A 20-bit physical address (R60, R7 `PHYS_WIDTH`). -/
abbrev Addr := BitVec 20

end Sys2Proof
end

