-- ==== Sys2Proof/Syntax.lean ====
section
/-! DEFINITION. The instructions as syntax: register names, memory operands in the exact form the ModR/M
byte and displacement give them, and `Instr`, one constructor per row of spec/opcode_table.json (the rows
`(invalid)` are two constructors: rule R125's bare opcode bytes and rule R126's sub-encodings). -/

namespace Sys2Proof

/-- The eight 16-bit general registers, in their order 0..7 (spec/10_state.md R20). -/
inductive Reg16 where
  | ax | cx | dx | bx | sp | bp | si | di
deriving DecidableEq, Repr

/-- The eight 8-bit register names, in their order 0..7 (R21, R23). -/
inductive Reg8 where
  | al | cl | dl | bl | ah | ch | dh | bh
deriving DecidableEq, Repr

/-- The four segment registers, in their order 0..3 (R24). -/
inductive Sreg where
  | es | cs | ss | ds
deriving DecidableEq, Repr

/-- The base sum `B(rm)` of a ModR/M memory operand, in the order of `rm` = 0..7 (spec/30_encoding.md R107). -/
inductive RmBase where
  | bxSi | bxDi | bpSi | bpDi | si | di | bp | bx
deriving DecidableEq, Repr

/-- A ModR/M memory operand, one constructor per form of R107:
`mod=00` without displacement, the `mod=00, rm=110` direct form, `mod=01` and `mod=10`. -/
inductive MemOp where
  | ind (b : RmBase)
  | direct (d : Word)
  | disp8 (b : RmBase) (d : Byte)
  | disp16 (b : RmBase) (d : Word)
deriving DecidableEq, Repr

/-- The operand that `mod` and `rm` select: a register of kind `R` (`mod=11`, R106) or memory (R107, R111). -/
inductive Rm (R : Type) where
  | reg (r : R)
  | mem (m : MemOp)
deriving DecidableEq, Repr

/-- The instructions. An `ib`/`cb` is a `Byte`, an `iw`/`cw`/`moffs` a `Word`; the numbers `/n` are the `reg`
field of the ModR/M byte. -/
inductive Instr where
  -- ADD: spec/41_arithmetic.md R200, R201
  /-- `00 /r`: ADD r/m8,r8 -/
  | addRm8R8 (rm : Rm Reg8) (r : Reg8)
  /-- `01 /r`: ADD r/m16,r16 -/
  | addRm16R16 (rm : Rm Reg16) (r : Reg16)
  /-- `02 /r`: ADD r8,r/m8 -/
  | addR8Rm8 (r : Reg8) (rm : Rm Reg8)
  /-- `03 /r`: ADD r16,r/m16 -/
  | addR16Rm16 (r : Reg16) (rm : Rm Reg16)
  /-- `04 ib`: ADD AL,ib -/
  | addAlIb (ib : Byte)
  /-- `05 iw`: ADD AX,iw -/
  | addAxIw (iw : Word)
  /-- `80 /0 ib`: ADD r/m8,ib -/
  | addRm8Ib (rm : Rm Reg8) (ib : Byte)
  /-- `81 /0 iw`: ADD r/m16,iw -/
  | addRm16Iw (rm : Rm Reg16) (iw : Word)
  /-- `82 /0 ib`: the same instruction as `80 /0 ib` under the second opcode (its own row of the table) -/
  | addRm8IbAlt (rm : Rm Reg8) (ib : Byte)
  /-- `83 /0 ib`: ADD r/m16,ib sign-extended to 16 bits -/
  | addRm16Ib (rm : Rm Reg16) (ib : Byte)
  -- OR: spec/41_arithmetic.md R200, R251
  /-- `08 /r`: OR r/m8,r8 -/
  | orRm8R8 (rm : Rm Reg8) (r : Reg8)
  /-- `09 /r`: OR r/m16,r16 -/
  | orRm16R16 (rm : Rm Reg16) (r : Reg16)
  /-- `0A /r`: OR r8,r/m8 -/
  | orR8Rm8 (r : Reg8) (rm : Rm Reg8)
  /-- `0B /r`: OR r16,r/m16 -/
  | orR16Rm16 (r : Reg16) (rm : Rm Reg16)
  /-- `0C ib`: OR AL,ib -/
  | orAlIb (ib : Byte)
  /-- `0D iw`: OR AX,iw -/
  | orAxIw (iw : Word)
  /-- `80 /1 ib`: OR r/m8,ib -/
  | orRm8Ib (rm : Rm Reg8) (ib : Byte)
  /-- `81 /1 iw`: OR r/m16,iw -/
  | orRm16Iw (rm : Rm Reg16) (iw : Word)
  /-- `82 /1 ib`: the same instruction as `80 /1 ib` under the second opcode (its own row of the table) -/
  | orRm8IbAlt (rm : Rm Reg8) (ib : Byte)
  /-- `83 /1 ib`: OR r/m16,ib sign-extended to 16 bits -/
  | orRm16Ib (rm : Rm Reg16) (ib : Byte)
  -- ADC: spec/41_arithmetic.md R200, R202
  /-- `10 /r`: ADC r/m8,r8 -/
  | adcRm8R8 (rm : Rm Reg8) (r : Reg8)
  /-- `11 /r`: ADC r/m16,r16 -/
  | adcRm16R16 (rm : Rm Reg16) (r : Reg16)
  /-- `12 /r`: ADC r8,r/m8 -/
  | adcR8Rm8 (r : Reg8) (rm : Rm Reg8)
  /-- `13 /r`: ADC r16,r/m16 -/
  | adcR16Rm16 (r : Reg16) (rm : Rm Reg16)
  /-- `14 ib`: ADC AL,ib -/
  | adcAlIb (ib : Byte)
  /-- `15 iw`: ADC AX,iw -/
  | adcAxIw (iw : Word)
  /-- `80 /2 ib`: ADC r/m8,ib -/
  | adcRm8Ib (rm : Rm Reg8) (ib : Byte)
  /-- `81 /2 iw`: ADC r/m16,iw -/
  | adcRm16Iw (rm : Rm Reg16) (iw : Word)
  /-- `82 /2 ib`: the same instruction as `80 /2 ib` under the second opcode (its own row of the table) -/
  | adcRm8IbAlt (rm : Rm Reg8) (ib : Byte)
  /-- `83 /2 ib`: ADC r/m16,ib sign-extended to 16 bits -/
  | adcRm16Ib (rm : Rm Reg16) (ib : Byte)
  -- SBB: spec/41_arithmetic.md R200, R204
  /-- `18 /r`: SBB r/m8,r8 -/
  | sbbRm8R8 (rm : Rm Reg8) (r : Reg8)
  /-- `19 /r`: SBB r/m16,r16 -/
  | sbbRm16R16 (rm : Rm Reg16) (r : Reg16)
  /-- `1A /r`: SBB r8,r/m8 -/
  | sbbR8Rm8 (r : Reg8) (rm : Rm Reg8)
  /-- `1B /r`: SBB r16,r/m16 -/
  | sbbR16Rm16 (r : Reg16) (rm : Rm Reg16)
  /-- `1C ib`: SBB AL,ib -/
  | sbbAlIb (ib : Byte)
  /-- `1D iw`: SBB AX,iw -/
  | sbbAxIw (iw : Word)
  /-- `80 /3 ib`: SBB r/m8,ib -/
  | sbbRm8Ib (rm : Rm Reg8) (ib : Byte)
  /-- `81 /3 iw`: SBB r/m16,iw -/
  | sbbRm16Iw (rm : Rm Reg16) (iw : Word)
  /-- `82 /3 ib`: the same instruction as `80 /3 ib` under the second opcode (its own row of the table) -/
  | sbbRm8IbAlt (rm : Rm Reg8) (ib : Byte)
  /-- `83 /3 ib`: SBB r/m16,ib sign-extended to 16 bits -/
  | sbbRm16Ib (rm : Rm Reg16) (ib : Byte)
  -- AND: spec/41_arithmetic.md R200, R250
  /-- `20 /r`: AND r/m8,r8 -/
  | andRm8R8 (rm : Rm Reg8) (r : Reg8)
  /-- `21 /r`: AND r/m16,r16 -/
  | andRm16R16 (rm : Rm Reg16) (r : Reg16)
  /-- `22 /r`: AND r8,r/m8 -/
  | andR8Rm8 (r : Reg8) (rm : Rm Reg8)
  /-- `23 /r`: AND r16,r/m16 -/
  | andR16Rm16 (r : Reg16) (rm : Rm Reg16)
  /-- `24 ib`: AND AL,ib -/
  | andAlIb (ib : Byte)
  /-- `25 iw`: AND AX,iw -/
  | andAxIw (iw : Word)
  /-- `80 /4 ib`: AND r/m8,ib -/
  | andRm8Ib (rm : Rm Reg8) (ib : Byte)
  /-- `81 /4 iw`: AND r/m16,iw -/
  | andRm16Iw (rm : Rm Reg16) (iw : Word)
  /-- `82 /4 ib`: the same instruction as `80 /4 ib` under the second opcode (its own row of the table) -/
  | andRm8IbAlt (rm : Rm Reg8) (ib : Byte)
  /-- `83 /4 ib`: AND r/m16,ib sign-extended to 16 bits -/
  | andRm16Ib (rm : Rm Reg16) (ib : Byte)
  -- SUB: spec/41_arithmetic.md R200, R203
  /-- `28 /r`: SUB r/m8,r8 -/
  | subRm8R8 (rm : Rm Reg8) (r : Reg8)
  /-- `29 /r`: SUB r/m16,r16 -/
  | subRm16R16 (rm : Rm Reg16) (r : Reg16)
  /-- `2A /r`: SUB r8,r/m8 -/
  | subR8Rm8 (r : Reg8) (rm : Rm Reg8)
  /-- `2B /r`: SUB r16,r/m16 -/
  | subR16Rm16 (r : Reg16) (rm : Rm Reg16)
  /-- `2C ib`: SUB AL,ib -/
  | subAlIb (ib : Byte)
  /-- `2D iw`: SUB AX,iw -/
  | subAxIw (iw : Word)
  /-- `80 /5 ib`: SUB r/m8,ib -/
  | subRm8Ib (rm : Rm Reg8) (ib : Byte)
  /-- `81 /5 iw`: SUB r/m16,iw -/
  | subRm16Iw (rm : Rm Reg16) (iw : Word)
  /-- `82 /5 ib`: the same instruction as `80 /5 ib` under the second opcode (its own row of the table) -/
  | subRm8IbAlt (rm : Rm Reg8) (ib : Byte)
  /-- `83 /5 ib`: SUB r/m16,ib sign-extended to 16 bits -/
  | subRm16Ib (rm : Rm Reg16) (ib : Byte)
  -- XOR: spec/41_arithmetic.md R200, R252
  /-- `30 /r`: XOR r/m8,r8 -/
  | xorRm8R8 (rm : Rm Reg8) (r : Reg8)
  /-- `31 /r`: XOR r/m16,r16 -/
  | xorRm16R16 (rm : Rm Reg16) (r : Reg16)
  /-- `32 /r`: XOR r8,r/m8 -/
  | xorR8Rm8 (r : Reg8) (rm : Rm Reg8)
  /-- `33 /r`: XOR r16,r/m16 -/
  | xorR16Rm16 (r : Reg16) (rm : Rm Reg16)
  /-- `34 ib`: XOR AL,ib -/
  | xorAlIb (ib : Byte)
  /-- `35 iw`: XOR AX,iw -/
  | xorAxIw (iw : Word)
  /-- `80 /6 ib`: XOR r/m8,ib -/
  | xorRm8Ib (rm : Rm Reg8) (ib : Byte)
  /-- `81 /6 iw`: XOR r/m16,iw -/
  | xorRm16Iw (rm : Rm Reg16) (iw : Word)
  /-- `82 /6 ib`: the same instruction as `80 /6 ib` under the second opcode (its own row of the table) -/
  | xorRm8IbAlt (rm : Rm Reg8) (ib : Byte)
  /-- `83 /6 ib`: XOR r/m16,ib sign-extended to 16 bits -/
  | xorRm16Ib (rm : Rm Reg16) (ib : Byte)
  -- CMP: spec/41_arithmetic.md R200, R205
  /-- `38 /r`: CMP r/m8,r8 -/
  | cmpRm8R8 (rm : Rm Reg8) (r : Reg8)
  /-- `39 /r`: CMP r/m16,r16 -/
  | cmpRm16R16 (rm : Rm Reg16) (r : Reg16)
  /-- `3A /r`: CMP r8,r/m8 -/
  | cmpR8Rm8 (r : Reg8) (rm : Rm Reg8)
  /-- `3B /r`: CMP r16,r/m16 -/
  | cmpR16Rm16 (r : Reg16) (rm : Rm Reg16)
  /-- `3C ib`: CMP AL,ib -/
  | cmpAlIb (ib : Byte)
  /-- `3D iw`: CMP AX,iw -/
  | cmpAxIw (iw : Word)
  /-- `80 /7 ib`: CMP r/m8,ib -/
  | cmpRm8Ib (rm : Rm Reg8) (ib : Byte)
  /-- `81 /7 iw`: CMP r/m16,iw -/
  | cmpRm16Iw (rm : Rm Reg16) (iw : Word)
  /-- `82 /7 ib`: the same instruction as `80 /7 ib` under the second opcode (its own row of the table) -/
  | cmpRm8IbAlt (rm : Rm Reg8) (ib : Byte)
  /-- `83 /7 ib`: CMP r/m16,ib sign-extended to 16 bits -/
  | cmpRm16Ib (rm : Rm Reg16) (ib : Byte)
  -- INC, DEC, NEG: spec/41_arithmetic.md R206, R207, R208
  /-- `40+r`: INC r16 -/
  | incR16 (r : Reg16)
  /-- `FE /0`: INC r/m8 -/
  | incRm8 (rm : Rm Reg8)
  /-- `FF /0`: INC r/m16 -/
  | incRm16 (rm : Rm Reg16)
  /-- `48+r`: DEC r16 -/
  | decR16 (r : Reg16)
  /-- `FE /1`: DEC r/m8 -/
  | decRm8 (rm : Rm Reg8)
  /-- `FF /1`: DEC r/m16 -/
  | decRm16 (rm : Rm Reg16)
  /-- `F6 /3`: NEG r/m8 -/
  | negRm8 (rm : Rm Reg8)
  /-- `F7 /3`: NEG r/m16 -/
  | negRm16 (rm : Rm Reg16)
  -- MUL, IMUL, DIV, IDIV: spec/41_arithmetic.md R209 to R212
  /-- `F6 /4`: MUL r/m8 -/
  | mulRm8 (rm : Rm Reg8)
  /-- `F7 /4`: MUL r/m16 -/
  | mulRm16 (rm : Rm Reg16)
  /-- `F6 /5`: IMUL r/m8 -/
  | imulRm8 (rm : Rm Reg8)
  /-- `F7 /5`: IMUL r/m16 -/
  | imulRm16 (rm : Rm Reg16)
  /-- `F6 /6`: DIV r/m8 -/
  | divRm8 (rm : Rm Reg8)
  /-- `F7 /6`: DIV r/m16 -/
  | divRm16 (rm : Rm Reg16)
  /-- `F6 /7`: IDIV r/m8 -/
  | idivRm8 (rm : Rm Reg8)
  /-- `F7 /7`: IDIV r/m16 -/
  | idivRm16 (rm : Rm Reg16)
  -- NOT, TEST: spec/42_logic.md R253, R254
  /-- `F6 /2`: NOT r/m8 -/
  | notRm8 (rm : Rm Reg8)
  /-- `F7 /2`: NOT r/m16 -/
  | notRm16 (rm : Rm Reg16)
  /-- `84 /r`: TEST r/m8,r8 -/
  | testRm8R8 (rm : Rm Reg8) (r : Reg8)
  /-- `85 /r`: TEST r/m16,r16 -/
  | testRm16R16 (rm : Rm Reg16) (r : Reg16)
  /-- `A8 ib`: TEST AL,ib -/
  | testAlIb (ib : Byte)
  /-- `A9 iw`: TEST AX,iw -/
  | testAxIw (iw : Word)
  /-- `F6 /0 ib`: TEST r/m8,ib -/
  | testRm8Ib (rm : Rm Reg8) (ib : Byte)
  /-- `F7 /0 iw`: TEST r/m16,iw -/
  | testRm16Iw (rm : Rm Reg16) (iw : Word)
  -- ROL: spec/43_shift_rotate.md R270, R272
  /-- `D0 /0`: ROL r/m8,1 -/
  | rolRm8One (rm : Rm Reg8)
  /-- `D1 /0`: ROL r/m16,1 -/
  | rolRm16One (rm : Rm Reg16)
  /-- `D2 /0`: ROL r/m8,CL -/
  | rolRm8Cl (rm : Rm Reg8)
  /-- `D3 /0`: ROL r/m16,CL -/
  | rolRm16Cl (rm : Rm Reg16)
  -- ROR: spec/43_shift_rotate.md R270, R273
  /-- `D0 /1`: ROR r/m8,1 -/
  | rorRm8One (rm : Rm Reg8)
  /-- `D1 /1`: ROR r/m16,1 -/
  | rorRm16One (rm : Rm Reg16)
  /-- `D2 /1`: ROR r/m8,CL -/
  | rorRm8Cl (rm : Rm Reg8)
  /-- `D3 /1`: ROR r/m16,CL -/
  | rorRm16Cl (rm : Rm Reg16)
  -- RCL: spec/43_shift_rotate.md R270, R274
  /-- `D0 /2`: RCL r/m8,1 -/
  | rclRm8One (rm : Rm Reg8)
  /-- `D1 /2`: RCL r/m16,1 -/
  | rclRm16One (rm : Rm Reg16)
  /-- `D2 /2`: RCL r/m8,CL -/
  | rclRm8Cl (rm : Rm Reg8)
  /-- `D3 /2`: RCL r/m16,CL -/
  | rclRm16Cl (rm : Rm Reg16)
  -- RCR: spec/43_shift_rotate.md R270, R275
  /-- `D0 /3`: RCR r/m8,1 -/
  | rcrRm8One (rm : Rm Reg8)
  /-- `D1 /3`: RCR r/m16,1 -/
  | rcrRm16One (rm : Rm Reg16)
  /-- `D2 /3`: RCR r/m8,CL -/
  | rcrRm8Cl (rm : Rm Reg8)
  /-- `D3 /3`: RCR r/m16,CL -/
  | rcrRm16Cl (rm : Rm Reg16)
  -- SHL: spec/43_shift_rotate.md R270, R276
  /-- `D0 /4`: SHL r/m8,1 -/
  | shlRm8One (rm : Rm Reg8)
  /-- `D1 /4`: SHL r/m16,1 -/
  | shlRm16One (rm : Rm Reg16)
  /-- `D2 /4`: SHL r/m8,CL -/
  | shlRm8Cl (rm : Rm Reg8)
  /-- `D3 /4`: SHL r/m16,CL -/
  | shlRm16Cl (rm : Rm Reg16)
  -- SHR: spec/43_shift_rotate.md R270, R277
  /-- `D0 /5`: SHR r/m8,1 -/
  | shrRm8One (rm : Rm Reg8)
  /-- `D1 /5`: SHR r/m16,1 -/
  | shrRm16One (rm : Rm Reg16)
  /-- `D2 /5`: SHR r/m8,CL -/
  | shrRm8Cl (rm : Rm Reg8)
  /-- `D3 /5`: SHR r/m16,CL -/
  | shrRm16Cl (rm : Rm Reg16)
  -- SAR: spec/43_shift_rotate.md R270, R278
  /-- `D0 /7`: SAR r/m8,1 -/
  | sarRm8One (rm : Rm Reg8)
  /-- `D1 /7`: SAR r/m16,1 -/
  | sarRm16One (rm : Rm Reg16)
  /-- `D2 /7`: SAR r/m8,CL -/
  | sarRm8Cl (rm : Rm Reg8)
  /-- `D3 /7`: SAR r/m16,CL -/
  | sarRm16Cl (rm : Rm Reg16)
  -- MOV: spec/40_data_movement.md R151 to R157, R160
  /-- `88 /r`: MOV r/m8,r8 -/
  | movRm8R8 (rm : Rm Reg8) (r : Reg8)
  /-- `89 /r`: MOV r/m16,r16 -/
  | movRm16R16 (rm : Rm Reg16) (r : Reg16)
  /-- `8A /r`: MOV r8,r/m8 -/
  | movR8Rm8 (r : Reg8) (rm : Rm Reg8)
  /-- `8B /r`: MOV r16,r/m16 -/
  | movR16Rm16 (r : Reg16) (rm : Rm Reg16)
  /-- `8C /r`: MOV r/m16,Sreg -/
  | movRm16Sreg (rm : Rm Reg16) (sr : Sreg)
  /-- `8E /r`: MOV Sreg,r/m16 -/
  | movSregRm16 (sr : Sreg) (rm : Rm Reg16)
  /-- `A0 moffs`: MOV AL,moffs8 -/
  | movAlMoffs (off : Word)
  /-- `A1 moffs`: MOV AX,moffs16 -/
  | movAxMoffs (off : Word)
  /-- `A2 moffs`: MOV moffs8,AL -/
  | movMoffsAl (off : Word)
  /-- `A3 moffs`: MOV moffs16,AX -/
  | movMoffsAx (off : Word)
  /-- `B0+r ib`: MOV r8,ib -/
  | movR8Ib (r : Reg8) (ib : Byte)
  /-- `B8+r iw`: MOV r16,iw -/
  | movR16Iw (r : Reg16) (iw : Word)
  /-- `C6 /0 ib`: MOV r/m8,ib -/
  | movRm8Ib (rm : Rm Reg8) (ib : Byte)
  /-- `C7 /0 iw`: MOV r/m16,iw -/
  | movRm16Iw (rm : Rm Reg16) (iw : Word)
  -- XCHG, LEA, LDS, LES: spec/40_data_movement.md R158, R159, R161, R169, R170
  /-- `86 /r`: XCHG r/m8,r8 -/
  | xchgRm8R8 (rm : Rm Reg8) (r : Reg8)
  /-- `87 /r`: XCHG r/m16,r16 -/
  | xchgRm16R16 (rm : Rm Reg16) (r : Reg16)
  /-- `90+r`: XCHG AX,r16; `90` is NOP -/
  | xchgAxR16 (r : Reg16)
  /-- `8D /r`, memory operand only: LEA r16,m -/
  | leaR16M (r : Reg16) (m : MemOp)
  /-- `C4 /r`, memory operand only: LES r16,m16:16 -/
  | lesR16M (r : Reg16) (m : MemOp)
  /-- `C5 /r`, memory operand only: LDS r16,m16:16 -/
  | ldsR16M (r : Reg16) (m : MemOp)
  -- PUSH, POP: spec/40_data_movement.md R162 to R168
  /-- `50+r`: PUSH r16 -/
  | pushR16 (r : Reg16)
  /-- `FF /6`: PUSH r/m16 -/
  | pushRm16 (rm : Rm Reg16)
  /-- `06`: PUSH ES -/
  | pushEs
  /-- `0E`: PUSH CS -/
  | pushCs
  /-- `16`: PUSH SS -/
  | pushSs
  /-- `1E`: PUSH DS -/
  | pushDs
  /-- `58+r`: POP r16 -/
  | popR16 (r : Reg16)
  /-- `8F /0`: POP r/m16 -/
  | popRm16 (rm : Rm Reg16)
  /-- `07`: POP ES -/
  | popEs
  /-- `17`: POP SS -/
  | popSs
  /-- `1F`: POP DS -/
  | popDs
  -- Jcc: spec/44_control_flow.md R291 to R307
  /-- `70 cb`: JO (R292) -/
  | jo (cb : Byte)
  /-- `71 cb`: JNO (R293) -/
  | jno (cb : Byte)
  /-- `72 cb`: JB/JNAE/JC (R294) -/
  | jb (cb : Byte)
  /-- `73 cb`: JNB/JAE/JNC (R295) -/
  | jnb (cb : Byte)
  /-- `74 cb`: JE/JZ (R296) -/
  | je (cb : Byte)
  /-- `75 cb`: JNE/JNZ (R297) -/
  | jne (cb : Byte)
  /-- `76 cb`: JBE/JNA (R298) -/
  | jbe (cb : Byte)
  /-- `77 cb`: JNBE/JA (R299) -/
  | jnbe (cb : Byte)
  /-- `78 cb`: JS (R300) -/
  | js (cb : Byte)
  /-- `79 cb`: JNS (R301) -/
  | jns (cb : Byte)
  /-- `7A cb`: JP/JPE (R302) -/
  | jp (cb : Byte)
  /-- `7B cb`: JNP/JPO (R303) -/
  | jnp (cb : Byte)
  /-- `7C cb`: JL/JNGE (R304) -/
  | jl (cb : Byte)
  /-- `7D cb`: JNL/JGE (R305) -/
  | jnl (cb : Byte)
  /-- `7E cb`: JLE/JNG (R306) -/
  | jle (cb : Byte)
  /-- `7F cb`: JNLE/JG (R307) -/
  | jnle (cb : Byte)
  -- JMP: spec/44_control_flow.md R308 to R312
  /-- `EB cb`: JMP short -/
  | jmpShort (cb : Byte)
  /-- `E9 cw`: JMP near -/
  | jmpNear (cw : Word)
  /-- `EA ow sw`: JMP far -/
  | jmpFar (off : Word) (seg : Word)
  /-- `FF /4`: JMP r/m16 -/
  | jmpRm16 (rm : Rm Reg16)
  /-- `FF /5`, memory operand only: JMP m16:16 -/
  | jmpM1616 (m : MemOp)
  -- CALL, RET, RETF: spec/44_control_flow.md R313 to R320
  /-- `E8 cw`: CALL near -/
  | callNear (cw : Word)
  /-- `9A ow sw`: CALL far -/
  | callFar (off : Word) (seg : Word)
  /-- `FF /2`: CALL r/m16 -/
  | callRm16 (rm : Rm Reg16)
  /-- `FF /3`, memory operand only: CALL m16:16 -/
  | callM1616 (m : MemOp)
  /-- `C3`: RET -/
  | ret
  /-- `C2 iw`: RET iw -/
  | retIw (iw : Word)
  /-- `CB`: RETF -/
  | retf
  /-- `CA iw`: RETF iw -/
  | retfIw (iw : Word)
  -- LOOP, LOOPE, LOOPNE, JCXZ: spec/44_control_flow.md R321 to R324
  /-- `E0 cb`: LOOPNE/LOOPNZ -/
  | loopne (cb : Byte)
  /-- `E1 cb`: LOOPE/LOOPZ -/
  | loope (cb : Byte)
  /-- `E2 cb`: LOOP -/
  | loop (cb : Byte)
  /-- `E3 cb`: JCXZ -/
  | jcxz (cb : Byte)
  -- Flag manipulation: spec/45_flag_manipulation.md R330 to R336
  /-- `F8`: CLC -/
  | clc
  /-- `F9`: STC -/
  | stc
  /-- `FA`: CLI -/
  | cli
  /-- `FB`: STI -/
  | sti
  /-- `FC`: CLD -/
  | cld
  /-- `FD`: STD -/
  | std
  /-- `F5`: CMC -/
  | cmc
  -- String primitives: spec/46_string.md R340 to R346
  /-- `A4`: MOVSB -/
  | movsb
  /-- `A5`: MOVSW -/
  | movsw
  /-- `A6`: CMPSB -/
  | cmpsb
  /-- `A7`: CMPSW -/
  | cmpsw
  /-- `AA`: STOSB -/
  | stosb
  /-- `AB`: STOSW -/
  | stosw
  /-- `AC`: LODSB -/
  | lodsb
  /-- `AD`: LODSW -/
  | lodsw
  /-- `AE`: SCASB -/
  | scasb
  /-- `AF`: SCASW -/
  | scasw
  -- Port I/O: spec/47_io.md R360 to R363
  /-- `E4 ib`: IN AL,ib -/
  | inAlIb (ib : Byte)
  /-- `E5 ib`: IN AX,ib -/
  | inAxIb (ib : Byte)
  /-- `EC`: IN AL,DX -/
  | inAlDx
  /-- `ED`: IN AX,DX -/
  | inAxDx
  /-- `E6 ib`: OUT ib,AL -/
  | outIbAl (ib : Byte)
  /-- `E7 ib`: OUT ib,AX -/
  | outIbAx (ib : Byte)
  /-- `EE`: OUT DX,AL -/
  | outDxAl
  /-- `EF`: OUT DX,AX -/
  | outDxAx
  -- Prefixes and HLT: spec/48_prefix_halt.md R370 to R376
  /-- `26`: ES: override -/
  | prefixEs
  /-- `2E`: CS: override -/
  | prefixCs
  /-- `36`: SS: override -/
  | prefixSs
  /-- `3E`: DS: override -/
  | prefixDs
  /-- `F2`: REPNE/REPNZ -/
  | prefixRepne
  /-- `F3`: REP/REPE/REPZ -/
  | prefixRep
  /-- `F4`: HLT -/
  | hlt
  -- Invalid encodings: spec/30_encoding.md R125, R126
  /-- an unpopulated first byte (R125): the opcode byte alone is fetched -/
  | invalidOp (op : Byte)
  /-- an invalid encoding inside a populated entry (R126): opcode, ModR/M byte and displacement are fetched; `g` is the `reg` field -/
  | invalidMrm (op : Byte) (g : BitVec 3) (rm : Rm (BitVec 3))
deriving DecidableEq, Repr

end Sys2Proof
end

