-- ==== Sys2Proof/WellFormed.lean ====
section
/-! DEFINITION. Which terms of `Instr` some instruction bytes stand for: the operand forms the ModR/M byte
can encode, and the encodings that rules R125 and R126 of spec/30_encoding.md call invalid. -/

namespace Sys2Proof

/-- `mod=00, rm=110` is the direct form, so there is no memory operand `[BP]` without displacement (R107). -/
def MemOp.wf : MemOp → Bool
  | .ind .bp => false
  | .ind _ => true
  | .direct _ => true
  | .disp8 _ _ => true
  | .disp16 _ _ => true

def Rm.wf {R : Type} : Rm R → Bool
  | .reg _ => true
  | .mem m => m.wf

/-- `mod=11` (R106). -/
def Rm.isReg {R : Type} : Rm R → Bool
  | .reg _ => true
  | .mem _ => false

/-- The 50 first bytes without a handler (R125, spec/90_conflicts.md C13). -/
def isUnpopulated (op : Byte) : Bool :=
  let n := op.toNat
  [0x0F, 0x27, 0x2F, 0x37, 0x3F].contains n || (0x60 ≤ n && n ≤ 0x6F) ||
  [0x98, 0x99, 0x9B, 0x9C, 0x9D, 0x9E, 0x9F].contains n ||
  [0xC0, 0xC1, 0xC8, 0xC9, 0xCC, 0xCD, 0xCE, 0xCF].contains n ||
  [0xD4, 0xD5, 0xD6, 0xD7].contains n || (0xD8 ≤ n && n ≤ 0xDF) || [0xF0, 0xF1].contains n

/-- The invalid encodings inside populated entries (R126): `g` is the ModR/M `reg` field, `isReg` says `mod=11`. -/
def isInvalidSub (op : Byte) (g : BitVec 3) (isReg : Bool) : Bool :=
  let n := op.toNat
  let k := g.toNat
  if n = 0x8C ∨ n = 0x8E then decide (4 ≤ k)
  else if n = 0x8F ∨ n = 0xC6 ∨ n = 0xC7 then decide (1 ≤ k)
  else if 0xD0 ≤ n ∧ n ≤ 0xD3 then decide (k = 6)
  else if n = 0xF6 ∨ n = 0xF7 then decide (k = 1)
  else if n = 0xFE then decide (2 ≤ k)
  else if n = 0xFF then decide (k = 7) || (decide (k = 3 ∨ k = 5) && isReg)
  else if n = 0x8D ∨ n = 0xC4 ∨ n = 0xC5 then isReg
  else false

/-- The instruction is one that some bytes encode. -/
def Instr.wf : Instr → Bool
  | .addRm8R8 rm _ => rm.wf
  | .addRm16R16 rm _ => rm.wf
  | .addR8Rm8 _ rm => rm.wf
  | .addR16Rm16 _ rm => rm.wf
  | .addAlIb _ => true
  | .addAxIw _ => true
  | .addRm8Ib rm _ => rm.wf
  | .addRm16Iw rm _ => rm.wf
  | .addRm8IbAlt rm _ => rm.wf
  | .addRm16Ib rm _ => rm.wf
  | .orRm8R8 rm _ => rm.wf
  | .orRm16R16 rm _ => rm.wf
  | .orR8Rm8 _ rm => rm.wf
  | .orR16Rm16 _ rm => rm.wf
  | .orAlIb _ => true
  | .orAxIw _ => true
  | .orRm8Ib rm _ => rm.wf
  | .orRm16Iw rm _ => rm.wf
  | .orRm8IbAlt rm _ => rm.wf
  | .orRm16Ib rm _ => rm.wf
  | .adcRm8R8 rm _ => rm.wf
  | .adcRm16R16 rm _ => rm.wf
  | .adcR8Rm8 _ rm => rm.wf
  | .adcR16Rm16 _ rm => rm.wf
  | .adcAlIb _ => true
  | .adcAxIw _ => true
  | .adcRm8Ib rm _ => rm.wf
  | .adcRm16Iw rm _ => rm.wf
  | .adcRm8IbAlt rm _ => rm.wf
  | .adcRm16Ib rm _ => rm.wf
  | .sbbRm8R8 rm _ => rm.wf
  | .sbbRm16R16 rm _ => rm.wf
  | .sbbR8Rm8 _ rm => rm.wf
  | .sbbR16Rm16 _ rm => rm.wf
  | .sbbAlIb _ => true
  | .sbbAxIw _ => true
  | .sbbRm8Ib rm _ => rm.wf
  | .sbbRm16Iw rm _ => rm.wf
  | .sbbRm8IbAlt rm _ => rm.wf
  | .sbbRm16Ib rm _ => rm.wf
  | .andRm8R8 rm _ => rm.wf
  | .andRm16R16 rm _ => rm.wf
  | .andR8Rm8 _ rm => rm.wf
  | .andR16Rm16 _ rm => rm.wf
  | .andAlIb _ => true
  | .andAxIw _ => true
  | .andRm8Ib rm _ => rm.wf
  | .andRm16Iw rm _ => rm.wf
  | .andRm8IbAlt rm _ => rm.wf
  | .andRm16Ib rm _ => rm.wf
  | .subRm8R8 rm _ => rm.wf
  | .subRm16R16 rm _ => rm.wf
  | .subR8Rm8 _ rm => rm.wf
  | .subR16Rm16 _ rm => rm.wf
  | .subAlIb _ => true
  | .subAxIw _ => true
  | .subRm8Ib rm _ => rm.wf
  | .subRm16Iw rm _ => rm.wf
  | .subRm8IbAlt rm _ => rm.wf
  | .subRm16Ib rm _ => rm.wf
  | .xorRm8R8 rm _ => rm.wf
  | .xorRm16R16 rm _ => rm.wf
  | .xorR8Rm8 _ rm => rm.wf
  | .xorR16Rm16 _ rm => rm.wf
  | .xorAlIb _ => true
  | .xorAxIw _ => true
  | .xorRm8Ib rm _ => rm.wf
  | .xorRm16Iw rm _ => rm.wf
  | .xorRm8IbAlt rm _ => rm.wf
  | .xorRm16Ib rm _ => rm.wf
  | .cmpRm8R8 rm _ => rm.wf
  | .cmpRm16R16 rm _ => rm.wf
  | .cmpR8Rm8 _ rm => rm.wf
  | .cmpR16Rm16 _ rm => rm.wf
  | .cmpAlIb _ => true
  | .cmpAxIw _ => true
  | .cmpRm8Ib rm _ => rm.wf
  | .cmpRm16Iw rm _ => rm.wf
  | .cmpRm8IbAlt rm _ => rm.wf
  | .cmpRm16Ib rm _ => rm.wf
  | .incR16 _ => true
  | .incRm8 rm => rm.wf
  | .incRm16 rm => rm.wf
  | .decR16 _ => true
  | .decRm8 rm => rm.wf
  | .decRm16 rm => rm.wf
  | .negRm8 rm => rm.wf
  | .negRm16 rm => rm.wf
  | .mulRm8 rm => rm.wf
  | .mulRm16 rm => rm.wf
  | .imulRm8 rm => rm.wf
  | .imulRm16 rm => rm.wf
  | .divRm8 rm => rm.wf
  | .divRm16 rm => rm.wf
  | .idivRm8 rm => rm.wf
  | .idivRm16 rm => rm.wf
  | .notRm8 rm => rm.wf
  | .notRm16 rm => rm.wf
  | .testRm8R8 rm _ => rm.wf
  | .testRm16R16 rm _ => rm.wf
  | .testAlIb _ => true
  | .testAxIw _ => true
  | .testRm8Ib rm _ => rm.wf
  | .testRm16Iw rm _ => rm.wf
  | .rolRm8One rm => rm.wf
  | .rolRm16One rm => rm.wf
  | .rolRm8Cl rm => rm.wf
  | .rolRm16Cl rm => rm.wf
  | .rorRm8One rm => rm.wf
  | .rorRm16One rm => rm.wf
  | .rorRm8Cl rm => rm.wf
  | .rorRm16Cl rm => rm.wf
  | .rclRm8One rm => rm.wf
  | .rclRm16One rm => rm.wf
  | .rclRm8Cl rm => rm.wf
  | .rclRm16Cl rm => rm.wf
  | .rcrRm8One rm => rm.wf
  | .rcrRm16One rm => rm.wf
  | .rcrRm8Cl rm => rm.wf
  | .rcrRm16Cl rm => rm.wf
  | .shlRm8One rm => rm.wf
  | .shlRm16One rm => rm.wf
  | .shlRm8Cl rm => rm.wf
  | .shlRm16Cl rm => rm.wf
  | .shrRm8One rm => rm.wf
  | .shrRm16One rm => rm.wf
  | .shrRm8Cl rm => rm.wf
  | .shrRm16Cl rm => rm.wf
  | .sarRm8One rm => rm.wf
  | .sarRm16One rm => rm.wf
  | .sarRm8Cl rm => rm.wf
  | .sarRm16Cl rm => rm.wf
  | .movRm8R8 rm _ => rm.wf
  | .movRm16R16 rm _ => rm.wf
  | .movR8Rm8 _ rm => rm.wf
  | .movR16Rm16 _ rm => rm.wf
  | .movRm16Sreg rm _ => rm.wf
  | .movSregRm16 _ rm => rm.wf
  | .movAlMoffs _ => true
  | .movAxMoffs _ => true
  | .movMoffsAl _ => true
  | .movMoffsAx _ => true
  | .movR8Ib _ _ => true
  | .movR16Iw _ _ => true
  | .movRm8Ib rm _ => rm.wf
  | .movRm16Iw rm _ => rm.wf
  | .xchgRm8R8 rm _ => rm.wf
  | .xchgRm16R16 rm _ => rm.wf
  | .xchgAxR16 _ => true
  | .leaR16M _ m => m.wf
  | .lesR16M _ m => m.wf
  | .ldsR16M _ m => m.wf
  | .pushR16 _ => true
  | .pushRm16 rm => rm.wf
  | .pushEs => true
  | .pushCs => true
  | .pushSs => true
  | .pushDs => true
  | .popR16 _ => true
  | .popRm16 rm => rm.wf
  | .popEs => true
  | .popSs => true
  | .popDs => true
  | .jo _ => true
  | .jno _ => true
  | .jb _ => true
  | .jnb _ => true
  | .je _ => true
  | .jne _ => true
  | .jbe _ => true
  | .jnbe _ => true
  | .js _ => true
  | .jns _ => true
  | .jp _ => true
  | .jnp _ => true
  | .jl _ => true
  | .jnl _ => true
  | .jle _ => true
  | .jnle _ => true
  | .jmpShort _ => true
  | .jmpNear _ => true
  | .jmpFar _ _ => true
  | .jmpRm16 rm => rm.wf
  | .jmpM1616 m => m.wf
  | .callNear _ => true
  | .callFar _ _ => true
  | .callRm16 rm => rm.wf
  | .callM1616 m => m.wf
  | .ret => true
  | .retIw _ => true
  | .retf => true
  | .retfIw _ => true
  | .loopne _ => true
  | .loope _ => true
  | .loop _ => true
  | .jcxz _ => true
  | .clc => true
  | .stc => true
  | .cli => true
  | .sti => true
  | .cld => true
  | .std => true
  | .cmc => true
  | .movsb => true
  | .movsw => true
  | .cmpsb => true
  | .cmpsw => true
  | .stosb => true
  | .stosw => true
  | .lodsb => true
  | .lodsw => true
  | .scasb => true
  | .scasw => true
  | .inAlIb _ => true
  | .inAxIb _ => true
  | .inAlDx => true
  | .inAxDx => true
  | .outIbAl _ => true
  | .outIbAx _ => true
  | .outDxAl => true
  | .outDxAx => true
  | .prefixEs => true
  | .prefixCs => true
  | .prefixSs => true
  | .prefixDs => true
  | .prefixRepne => true
  | .prefixRep => true
  | .hlt => true
  | .invalidOp op => isUnpopulated op
  | .invalidMrm op g rm => (isInvalidSub op g rm.isReg && rm.wf)

end Sys2Proof
end

