-- ==== Sys2Proof/Decode.lean ====
section
/-! DEFINITION. From bytes to instructions and back (spec/30_encoding.md): the bit fields and byte-order helpers,
the register tables, the ModR/M byte, the 256-entry opcode map of R124 with the groups of R121, the decoder
(total on any bytes; the only refusal is a byte list that ends inside an instruction), and the encoder. -/

namespace Sys2Proof

/-! ### Bit fields and byte order -/

/-- Bits 7..0 of a word, the byte at its lower address (spec/20_memory.md R78). -/
def lowByte (w : Word) : Byte := w.extractLsb' 0 8

/-- Bits 15..8 of a word, the byte at its higher address (R78). -/
def highByte (w : Word) : Byte := w.extractLsb' 8 8

/-- The word `(hi << 8) | lo` (R101, R67). -/
def wordOf (lo hi : Byte) : Word := hi ++ lo

/-- `sext_16` of a byte (spec/00_scope.md R8): `cb`, `d8` and the immediate of group `83`. -/
def signExtend8 (b : Byte) : Word := b.signExtend 16

/-- `zext_16` of a byte (R8): the port number of `E4..E7` (R114). -/
def zeroExtend8 (b : Byte) : Word := b.setWidth 16

/-- `mod[7:6]` (R103). -/
def modField (b : Byte) : BitVec 2 := b.extractLsb' 6 2

/-- `reg[5:3]` (R103). -/
def regField (b : Byte) : BitVec 3 := b.extractLsb' 3 3

/-- `rm[2:0]` (R103); also the register number in the low three bits of an opcode (R112). -/
def rmField (b : Byte) : BitVec 3 := b.extractLsb' 0 3

/-- The ModR/M byte of three fields (R103). -/
def modrmByte (mod : BitVec 2) (reg rm : BitVec 3) : Byte := (mod ++ reg) ++ rm

/-- An opcode whose low three bits are a register number (R112). -/
def opcodePlus (base : Byte) (r : BitVec 3) : Byte := base + r.setWidth 8

/-! ### Register tables (R104, R107, R117) -/

def Reg16.num : Reg16 → BitVec 3
  | .ax => 0 | .cx => 1 | .dx => 2 | .bx => 3 | .sp => 4 | .bp => 5 | .si => 6 | .di => 7

def Reg16.ofNum (n : BitVec 3) : Reg16 :=
  match n.toNat with
  | 0 => .ax | 1 => .cx | 2 => .dx | 3 => .bx | 4 => .sp | 5 => .bp | 6 => .si | _ => .di

def Reg8.num : Reg8 → BitVec 3
  | .al => 0 | .cl => 1 | .dl => 2 | .bl => 3 | .ah => 4 | .ch => 5 | .dh => 6 | .bh => 7

def Reg8.ofNum (n : BitVec 3) : Reg8 :=
  match n.toNat with
  | 0 => .al | 1 => .cl | 2 => .dl | 3 => .bl | 4 => .ah | 5 => .ch | 6 => .dh | _ => .bh

/-- The segment register's number as a ModR/M `reg` field (R104). -/
def Sreg.num3 : Sreg → BitVec 3
  | .es => 0 | .cs => 1 | .ss => 2 | .ds => 3

/-- The Segment table of R104: `reg` 4..7 selects nothing (R105). -/
def Sreg.ofNum? (n : BitVec 3) : Option Sreg :=
  match n.toNat with
  | 0 => some .es | 1 => some .cs | 2 => some .ss | 3 => some .ds | _ => none

def RmBase.num : RmBase → BitVec 3
  | .bxSi => 0 | .bxDi => 1 | .bpSi => 2 | .bpDi => 3 | .si => 4 | .di => 5 | .bp => 6 | .bx => 7

def RmBase.ofNum (n : BitVec 3) : RmBase :=
  match n.toNat with
  | 0 => .bxSi | 1 => .bxDi | 2 => .bpSi | 3 => .bpDi | 4 => .si | 5 => .di | 6 => .bp | _ => .bx

/-- The operand with its register renamed: the same `rm` number read in another table (R106). -/
def Rm.map {R S : Type} (f : R → S) : Rm R → Rm S
  | .reg r => .reg (f r)
  | .mem m => .mem m

/-- `mod=11` read in the Reg8 table (R106). -/
def Rm.byte (rm : Rm (BitVec 3)) : Rm Reg8 := rm.map Reg8.ofNum

/-- `mod=11` read in the Reg16 table (R106). -/
def Rm.word (rm : Rm (BitVec 3)) : Rm Reg16 := rm.map Reg16.ofNum

/-! ### Decoding -/

/-- Why a byte list is no instruction. Every list of six bytes or more decodes (R118: six bytes is the longest
instruction), so this is a property of the list, never of the machine. -/
inductive DecodeError where
  /-- the list ends before the instruction's last byte -/
  | truncated
deriving DecidableEq, Repr

/-- What follows the opcode, or the ModR/M byte and displacement: nothing, an `ib`/`cb`, or an `iw`/`cw`/`moffs`. -/
inductive Tail where
  | done (i : Instr)
  | ib (k : Byte → Instr)
  | iw (k : Word → Instr)

/-- The format of an opcode (R113): no ModR/M byte, a far pointer immediate, or a ModR/M byte whose `reg` field and
operand then select the rest. -/
inductive Form where
  | plain (t : Tail)
  | far (k : Word → Word → Instr)
  | modrm (k : BitVec 3 → Rm (BitVec 3) → Tail)

/-- The ModR/M byte and its displacement (R103, R107, R108): the `reg` field, the operand, the bytes after. -/
def decodeRm : List Byte → Except DecodeError (BitVec 3 × Rm (BitVec 3) × List Byte)
  | [] => .error .truncated
  | b :: bs =>
    if modField b = 3 then .ok (regField b, .reg (rmField b), bs)
    else if modField b = 1 then
      match bs with
      | d :: bs => .ok (regField b, .mem (.disp8 (RmBase.ofNum (rmField b)) d), bs)
      | [] => .error .truncated
    else if modField b = 2 then
      match bs with
      | lo :: hi :: bs => .ok (regField b, .mem (.disp16 (RmBase.ofNum (rmField b)) (wordOf lo hi)), bs)
      | _ => .error .truncated
    else if rmField b = 6 then
      match bs with
      | lo :: hi :: bs => .ok (regField b, .mem (.direct (wordOf lo hi)), bs)
      | _ => .error .truncated
    else .ok (regField b, .mem (.ind (RmBase.ofNum (rmField b))), bs)

/-- The immediate, the last field fetched, low byte first (R101, R114). -/
def Tail.run : Tail → List Byte → Except DecodeError (Instr × List Byte)
  | .done i, bs => .ok (i, bs)
  | .ib k, b :: bs => .ok (k b, bs)
  | .ib _, [] => .error .truncated
  | .iw k, lo :: hi :: bs => .ok (k (wordOf lo hi), bs)
  | .iw _, _ => .error .truncated

/-- The bytes after the opcode, read as the format says: displacement, then immediate (R102); a far pointer is the
offset word, then the segment word (R116). -/
def Form.run : Form → List Byte → Except DecodeError (Instr × List Byte)
  | .plain t, bs => t.run bs
  | .far k, o0 :: o1 :: s0 :: s1 :: bs => .ok (k (wordOf o0 o1) (wordOf s0 s1), bs)
  | .far _, _ => .error .truncated
  | .modrm k, bs =>
    match decodeRm bs with
    | .ok (g, rm, bs) => (k g rm).run bs
    | .error e => .error e

/-! ### The groups of R121 -/

/-- Group 1 under opcode `80`. -/
def group1_80 (g : BitVec 3) (rm : Rm Reg8) (ib : Byte) : Instr :=
  match g.toNat with
  | 0 => .addRm8Ib rm ib
  | 1 => .orRm8Ib rm ib
  | 2 => .adcRm8Ib rm ib
  | 3 => .sbbRm8Ib rm ib
  | 4 => .andRm8Ib rm ib
  | 5 => .subRm8Ib rm ib
  | 6 => .xorRm8Ib rm ib
  | _ => .cmpRm8Ib rm ib

/-- Group 1 under opcode `81`. -/
def group1_81 (g : BitVec 3) (rm : Rm Reg16) (iw : Word) : Instr :=
  match g.toNat with
  | 0 => .addRm16Iw rm iw
  | 1 => .orRm16Iw rm iw
  | 2 => .adcRm16Iw rm iw
  | 3 => .sbbRm16Iw rm iw
  | 4 => .andRm16Iw rm iw
  | 5 => .subRm16Iw rm iw
  | 6 => .xorRm16Iw rm iw
  | _ => .cmpRm16Iw rm iw

/-- Group 1 under opcode `82`. -/
def group1_82 (g : BitVec 3) (rm : Rm Reg8) (ib : Byte) : Instr :=
  match g.toNat with
  | 0 => .addRm8IbAlt rm ib
  | 1 => .orRm8IbAlt rm ib
  | 2 => .adcRm8IbAlt rm ib
  | 3 => .sbbRm8IbAlt rm ib
  | 4 => .andRm8IbAlt rm ib
  | 5 => .subRm8IbAlt rm ib
  | 6 => .xorRm8IbAlt rm ib
  | _ => .cmpRm8IbAlt rm ib

/-- Group 1 under opcode `83`. -/
def group1_83 (g : BitVec 3) (rm : Rm Reg16) (ib : Byte) : Instr :=
  match g.toNat with
  | 0 => .addRm16Ib rm ib
  | 1 => .orRm16Ib rm ib
  | 2 => .adcRm16Ib rm ib
  | 3 => .sbbRm16Ib rm ib
  | 4 => .andRm16Ib rm ib
  | 5 => .subRm16Ib rm ib
  | 6 => .xorRm16Ib rm ib
  | _ => .cmpRm16Ib rm ib

/-- Group 2 under opcode `D0`; `/6` is invalid (R126). -/
def group2_D0 (g : BitVec 3) (rm : Rm (BitVec 3)) : Instr :=
  match g.toNat with
  | 0 => .rolRm8One rm.byte
  | 1 => .rorRm8One rm.byte
  | 2 => .rclRm8One rm.byte
  | 3 => .rcrRm8One rm.byte
  | 4 => .shlRm8One rm.byte
  | 5 => .shrRm8One rm.byte
  | 6 => .invalidMrm 0xD0 g rm
  | _ => .sarRm8One rm.byte

/-- Group 2 under opcode `D1`; `/6` is invalid (R126). -/
def group2_D1 (g : BitVec 3) (rm : Rm (BitVec 3)) : Instr :=
  match g.toNat with
  | 0 => .rolRm16One rm.word
  | 1 => .rorRm16One rm.word
  | 2 => .rclRm16One rm.word
  | 3 => .rcrRm16One rm.word
  | 4 => .shlRm16One rm.word
  | 5 => .shrRm16One rm.word
  | 6 => .invalidMrm 0xD1 g rm
  | _ => .sarRm16One rm.word

/-- Group 2 under opcode `D2`; `/6` is invalid (R126). -/
def group2_D2 (g : BitVec 3) (rm : Rm (BitVec 3)) : Instr :=
  match g.toNat with
  | 0 => .rolRm8Cl rm.byte
  | 1 => .rorRm8Cl rm.byte
  | 2 => .rclRm8Cl rm.byte
  | 3 => .rcrRm8Cl rm.byte
  | 4 => .shlRm8Cl rm.byte
  | 5 => .shrRm8Cl rm.byte
  | 6 => .invalidMrm 0xD2 g rm
  | _ => .sarRm8Cl rm.byte

/-- Group 2 under opcode `D3`; `/6` is invalid (R126). -/
def group2_D3 (g : BitVec 3) (rm : Rm (BitVec 3)) : Instr :=
  match g.toNat with
  | 0 => .rolRm16Cl rm.word
  | 1 => .rorRm16Cl rm.word
  | 2 => .rclRm16Cl rm.word
  | 3 => .rcrRm16Cl rm.word
  | 4 => .shlRm16Cl rm.word
  | 5 => .shrRm16Cl rm.word
  | 6 => .invalidMrm 0xD3 g rm
  | _ => .sarRm16Cl rm.word

/-- Group 3 under opcode `F6`: only `/0` has an immediate; `/1` is invalid (R126). -/
def group3_F6 (g : BitVec 3) (rm : Rm (BitVec 3)) : Tail :=
  match g.toNat with
  | 0 => .ib (fun ib => .testRm8Ib rm.byte ib)
  | 1 => .done (.invalidMrm 0xF6 g rm)
  | 2 => .done (.notRm8 rm.byte)
  | 3 => .done (.negRm8 rm.byte)
  | 4 => .done (.mulRm8 rm.byte)
  | 5 => .done (.imulRm8 rm.byte)
  | 6 => .done (.divRm8 rm.byte)
  | _ => .done (.idivRm8 rm.byte)

/-- Group 3 under opcode `F7`: only `/0` has an immediate; `/1` is invalid (R126). -/
def group3_F7 (g : BitVec 3) (rm : Rm (BitVec 3)) : Tail :=
  match g.toNat with
  | 0 => .iw (fun iw => .testRm16Iw rm.word iw)
  | 1 => .done (.invalidMrm 0xF7 g rm)
  | 2 => .done (.notRm16 rm.word)
  | 3 => .done (.negRm16 rm.word)
  | 4 => .done (.mulRm16 rm.word)
  | 5 => .done (.imulRm16 rm.word)
  | 6 => .done (.divRm16 rm.word)
  | _ => .done (.idivRm16 rm.word)

/-- Group 4; `/2../7` are invalid (R126). -/
def group4_FE (g : BitVec 3) (rm : Rm (BitVec 3)) : Instr :=
  match g.toNat with
  | 0 => .incRm8 rm.byte
  | 1 => .decRm8 rm.byte
  | _ => .invalidMrm 0xFE g rm

/-- An instruction that takes a memory operand only: `mod=11` is invalid (R126). -/
def memOnly (op : Byte) (k : MemOp → Instr) (g : BitVec 3) : Rm (BitVec 3) → Instr
  | .mem m => k m
  | .reg r => .invalidMrm op g (.reg r)

/-- Group 5; `/7`, and `/3` and `/5` with `mod=11`, are invalid (R126). -/
def group5_FF (g : BitVec 3) (rm : Rm (BitVec 3)) : Instr :=
  match g.toNat with
  | 0 => .incRm16 rm.word
  | 1 => .decRm16 rm.word
  | 2 => .callRm16 rm.word
  | 3 => memOnly 0xFF .callM1616 g rm
  | 4 => .jmpRm16 rm.word
  | 5 => memOnly 0xFF .jmpM1616 g rm
  | 6 => .pushRm16 rm.word
  | _ => .invalidMrm 0xFF g rm

/-- `8C` and `8E`: the `reg` field names a segment register; 4..7 is reserved and invalid (R105). -/
def segmentForm (op : Byte) (k : Sreg → Rm Reg16 → Instr) (g : BitVec 3) (rm : Rm (BitVec 3)) : Instr :=
  match Sreg.ofNum? g with
  | some sr => k sr rm.word
  | none => .invalidMrm op g rm

/-- Groups 1A and 11: sub-opcode `/0` only. -/
def slashZero (op : Byte) (t : Tail) (g : BitVec 3) (rm : Rm (BitVec 3)) : Tail :=
  if g = 0 then t else .done (.invalidMrm op g rm)

/-! ### The opcode map (R124) -/

/-- The format and instruction of each of the 256 first bytes; an unpopulated byte is `invalidOp` (R125). -/
def opcodeForm (op : Byte) : Form :=
  match op.toNat with
  | 0x00 => .modrm fun g rm => .done (.addRm8R8 rm.byte (Reg8.ofNum g))
  | 0x01 => .modrm fun g rm => .done (.addRm16R16 rm.word (Reg16.ofNum g))
  | 0x02 => .modrm fun g rm => .done (.addR8Rm8 (Reg8.ofNum g) rm.byte)
  | 0x03 => .modrm fun g rm => .done (.addR16Rm16 (Reg16.ofNum g) rm.word)
  | 0x04 => .plain (.ib .addAlIb)
  | 0x05 => .plain (.iw .addAxIw)
  | 0x06 => .plain (.done .pushEs)
  | 0x07 => .plain (.done .popEs)
  | 0x08 => .modrm fun g rm => .done (.orRm8R8 rm.byte (Reg8.ofNum g))
  | 0x09 => .modrm fun g rm => .done (.orRm16R16 rm.word (Reg16.ofNum g))
  | 0x0A => .modrm fun g rm => .done (.orR8Rm8 (Reg8.ofNum g) rm.byte)
  | 0x0B => .modrm fun g rm => .done (.orR16Rm16 (Reg16.ofNum g) rm.word)
  | 0x0C => .plain (.ib .orAlIb)
  | 0x0D => .plain (.iw .orAxIw)
  | 0x0E => .plain (.done .pushCs)
  | 0x10 => .modrm fun g rm => .done (.adcRm8R8 rm.byte (Reg8.ofNum g))
  | 0x11 => .modrm fun g rm => .done (.adcRm16R16 rm.word (Reg16.ofNum g))
  | 0x12 => .modrm fun g rm => .done (.adcR8Rm8 (Reg8.ofNum g) rm.byte)
  | 0x13 => .modrm fun g rm => .done (.adcR16Rm16 (Reg16.ofNum g) rm.word)
  | 0x14 => .plain (.ib .adcAlIb)
  | 0x15 => .plain (.iw .adcAxIw)
  | 0x16 => .plain (.done .pushSs)
  | 0x17 => .plain (.done .popSs)
  | 0x18 => .modrm fun g rm => .done (.sbbRm8R8 rm.byte (Reg8.ofNum g))
  | 0x19 => .modrm fun g rm => .done (.sbbRm16R16 rm.word (Reg16.ofNum g))
  | 0x1A => .modrm fun g rm => .done (.sbbR8Rm8 (Reg8.ofNum g) rm.byte)
  | 0x1B => .modrm fun g rm => .done (.sbbR16Rm16 (Reg16.ofNum g) rm.word)
  | 0x1C => .plain (.ib .sbbAlIb)
  | 0x1D => .plain (.iw .sbbAxIw)
  | 0x1E => .plain (.done .pushDs)
  | 0x1F => .plain (.done .popDs)
  | 0x20 => .modrm fun g rm => .done (.andRm8R8 rm.byte (Reg8.ofNum g))
  | 0x21 => .modrm fun g rm => .done (.andRm16R16 rm.word (Reg16.ofNum g))
  | 0x22 => .modrm fun g rm => .done (.andR8Rm8 (Reg8.ofNum g) rm.byte)
  | 0x23 => .modrm fun g rm => .done (.andR16Rm16 (Reg16.ofNum g) rm.word)
  | 0x24 => .plain (.ib .andAlIb)
  | 0x25 => .plain (.iw .andAxIw)
  | 0x26 => .plain (.done .prefixEs)
  | 0x28 => .modrm fun g rm => .done (.subRm8R8 rm.byte (Reg8.ofNum g))
  | 0x29 => .modrm fun g rm => .done (.subRm16R16 rm.word (Reg16.ofNum g))
  | 0x2A => .modrm fun g rm => .done (.subR8Rm8 (Reg8.ofNum g) rm.byte)
  | 0x2B => .modrm fun g rm => .done (.subR16Rm16 (Reg16.ofNum g) rm.word)
  | 0x2C => .plain (.ib .subAlIb)
  | 0x2D => .plain (.iw .subAxIw)
  | 0x2E => .plain (.done .prefixCs)
  | 0x30 => .modrm fun g rm => .done (.xorRm8R8 rm.byte (Reg8.ofNum g))
  | 0x31 => .modrm fun g rm => .done (.xorRm16R16 rm.word (Reg16.ofNum g))
  | 0x32 => .modrm fun g rm => .done (.xorR8Rm8 (Reg8.ofNum g) rm.byte)
  | 0x33 => .modrm fun g rm => .done (.xorR16Rm16 (Reg16.ofNum g) rm.word)
  | 0x34 => .plain (.ib .xorAlIb)
  | 0x35 => .plain (.iw .xorAxIw)
  | 0x36 => .plain (.done .prefixSs)
  | 0x38 => .modrm fun g rm => .done (.cmpRm8R8 rm.byte (Reg8.ofNum g))
  | 0x39 => .modrm fun g rm => .done (.cmpRm16R16 rm.word (Reg16.ofNum g))
  | 0x3A => .modrm fun g rm => .done (.cmpR8Rm8 (Reg8.ofNum g) rm.byte)
  | 0x3B => .modrm fun g rm => .done (.cmpR16Rm16 (Reg16.ofNum g) rm.word)
  | 0x3C => .plain (.ib .cmpAlIb)
  | 0x3D => .plain (.iw .cmpAxIw)
  | 0x3E => .plain (.done .prefixDs)
  | 0x40 | 0x41 | 0x42 | 0x43 | 0x44 | 0x45 | 0x46 | 0x47 => .plain (.done (.incR16 (Reg16.ofNum (rmField op))))
  | 0x48 | 0x49 | 0x4A | 0x4B | 0x4C | 0x4D | 0x4E | 0x4F => .plain (.done (.decR16 (Reg16.ofNum (rmField op))))
  | 0x50 | 0x51 | 0x52 | 0x53 | 0x54 | 0x55 | 0x56 | 0x57 => .plain (.done (.pushR16 (Reg16.ofNum (rmField op))))
  | 0x58 | 0x59 | 0x5A | 0x5B | 0x5C | 0x5D | 0x5E | 0x5F => .plain (.done (.popR16 (Reg16.ofNum (rmField op))))
  | 0x70 => .plain (.ib .jo)
  | 0x71 => .plain (.ib .jno)
  | 0x72 => .plain (.ib .jb)
  | 0x73 => .plain (.ib .jnb)
  | 0x74 => .plain (.ib .je)
  | 0x75 => .plain (.ib .jne)
  | 0x76 => .plain (.ib .jbe)
  | 0x77 => .plain (.ib .jnbe)
  | 0x78 => .plain (.ib .js)
  | 0x79 => .plain (.ib .jns)
  | 0x7A => .plain (.ib .jp)
  | 0x7B => .plain (.ib .jnp)
  | 0x7C => .plain (.ib .jl)
  | 0x7D => .plain (.ib .jnl)
  | 0x7E => .plain (.ib .jle)
  | 0x7F => .plain (.ib .jnle)
  | 0x80 => .modrm fun g rm => .ib (group1_80 g rm.byte)
  | 0x81 => .modrm fun g rm => .iw (group1_81 g rm.word)
  | 0x82 => .modrm fun g rm => .ib (group1_82 g rm.byte)
  | 0x83 => .modrm fun g rm => .ib (group1_83 g rm.word)
  | 0x84 => .modrm fun g rm => .done (.testRm8R8 rm.byte (Reg8.ofNum g))
  | 0x85 => .modrm fun g rm => .done (.testRm16R16 rm.word (Reg16.ofNum g))
  | 0x86 => .modrm fun g rm => .done (.xchgRm8R8 rm.byte (Reg8.ofNum g))
  | 0x87 => .modrm fun g rm => .done (.xchgRm16R16 rm.word (Reg16.ofNum g))
  | 0x88 => .modrm fun g rm => .done (.movRm8R8 rm.byte (Reg8.ofNum g))
  | 0x89 => .modrm fun g rm => .done (.movRm16R16 rm.word (Reg16.ofNum g))
  | 0x8A => .modrm fun g rm => .done (.movR8Rm8 (Reg8.ofNum g) rm.byte)
  | 0x8B => .modrm fun g rm => .done (.movR16Rm16 (Reg16.ofNum g) rm.word)
  | 0x8C => .modrm fun g rm => .done (segmentForm 0x8C (fun sr rm => .movRm16Sreg rm sr) g rm)
  | 0x8D => .modrm fun g rm => .done (memOnly 0x8D (.leaR16M (Reg16.ofNum g)) g rm)
  | 0x8E => .modrm fun g rm => .done (segmentForm 0x8E .movSregRm16 g rm)
  | 0x8F => .modrm fun g rm => slashZero 0x8F (.done (.popRm16 rm.word)) g rm
  | 0x90 | 0x91 | 0x92 | 0x93 | 0x94 | 0x95 | 0x96 | 0x97 => .plain (.done (.xchgAxR16 (Reg16.ofNum (rmField op))))
  | 0x9A => .far .callFar
  | 0xA0 => .plain (.iw .movAlMoffs)
  | 0xA1 => .plain (.iw .movAxMoffs)
  | 0xA2 => .plain (.iw .movMoffsAl)
  | 0xA3 => .plain (.iw .movMoffsAx)
  | 0xA4 => .plain (.done .movsb)
  | 0xA5 => .plain (.done .movsw)
  | 0xA6 => .plain (.done .cmpsb)
  | 0xA7 => .plain (.done .cmpsw)
  | 0xA8 => .plain (.ib .testAlIb)
  | 0xA9 => .plain (.iw .testAxIw)
  | 0xAA => .plain (.done .stosb)
  | 0xAB => .plain (.done .stosw)
  | 0xAC => .plain (.done .lodsb)
  | 0xAD => .plain (.done .lodsw)
  | 0xAE => .plain (.done .scasb)
  | 0xAF => .plain (.done .scasw)
  | 0xB0 | 0xB1 | 0xB2 | 0xB3 | 0xB4 | 0xB5 | 0xB6 | 0xB7 => .plain (.ib (.movR8Ib (Reg8.ofNum (rmField op))))
  | 0xB8 | 0xB9 | 0xBA | 0xBB | 0xBC | 0xBD | 0xBE | 0xBF => .plain (.iw (.movR16Iw (Reg16.ofNum (rmField op))))
  | 0xC2 => .plain (.iw .retIw)
  | 0xC3 => .plain (.done .ret)
  | 0xC4 => .modrm fun g rm => .done (memOnly 0xC4 (.lesR16M (Reg16.ofNum g)) g rm)
  | 0xC5 => .modrm fun g rm => .done (memOnly 0xC5 (.ldsR16M (Reg16.ofNum g)) g rm)
  | 0xC6 => .modrm fun g rm => slashZero 0xC6 (.ib (.movRm8Ib rm.byte)) g rm
  | 0xC7 => .modrm fun g rm => slashZero 0xC7 (.iw (.movRm16Iw rm.word)) g rm
  | 0xCA => .plain (.iw .retfIw)
  | 0xCB => .plain (.done .retf)
  | 0xD0 => .modrm fun g rm => .done (group2_D0 g rm)
  | 0xD1 => .modrm fun g rm => .done (group2_D1 g rm)
  | 0xD2 => .modrm fun g rm => .done (group2_D2 g rm)
  | 0xD3 => .modrm fun g rm => .done (group2_D3 g rm)
  | 0xE0 => .plain (.ib .loopne)
  | 0xE1 => .plain (.ib .loope)
  | 0xE2 => .plain (.ib .loop)
  | 0xE3 => .plain (.ib .jcxz)
  | 0xE4 => .plain (.ib .inAlIb)
  | 0xE5 => .plain (.ib .inAxIb)
  | 0xE6 => .plain (.ib .outIbAl)
  | 0xE7 => .plain (.ib .outIbAx)
  | 0xE8 => .plain (.iw .callNear)
  | 0xE9 => .plain (.iw .jmpNear)
  | 0xEA => .far .jmpFar
  | 0xEB => .plain (.ib .jmpShort)
  | 0xEC => .plain (.done .inAlDx)
  | 0xED => .plain (.done .inAxDx)
  | 0xEE => .plain (.done .outDxAl)
  | 0xEF => .plain (.done .outDxAx)
  | 0xF2 => .plain (.done .prefixRepne)
  | 0xF3 => .plain (.done .prefixRep)
  | 0xF4 => .plain (.done .hlt)
  | 0xF5 => .plain (.done .cmc)
  | 0xF6 => .modrm group3_F6
  | 0xF7 => .modrm group3_F7
  | 0xF8 => .plain (.done .clc)
  | 0xF9 => .plain (.done .stc)
  | 0xFA => .plain (.done .cli)
  | 0xFB => .plain (.done .sti)
  | 0xFC => .plain (.done .cld)
  | 0xFD => .plain (.done .std)
  | 0xFE => .modrm fun g rm => .done (group4_FE g rm)
  | 0xFF => .modrm fun g rm => .done (group5_FF g rm)
  | _ => .plain (.done (.invalidOp op))

/-- One instruction (a prefix byte counts as one, R119) from the front of a byte list, and the bytes after it. -/
def decode : List Byte → Except DecodeError (Instr × List Byte)
  | [] => .error .truncated
  | op :: bs => (opcodeForm op).run bs

/-! ### Encoding -/

/-- A 16-bit field of the instruction stream, low byte first (R101). -/
def encodeWord (w : Word) : List Byte := [lowByte w, highByte w]

/-- The ModR/M byte and displacement of a memory operand (R107). -/
def encodeMem (g : BitVec 3) : MemOp → List Byte
  | .ind b => [modrmByte 0 g b.num]
  | .direct d => modrmByte 0 g 6 :: encodeWord d
  | .disp8 b d => [modrmByte 1 g b.num, d]
  | .disp16 b d => modrmByte 2 g b.num :: encodeWord d

/-- The ModR/M byte and displacement of an operand with the given `reg` field (R103, R106, R107). -/
def encodeRm (g : BitVec 3) : Rm (BitVec 3) → List Byte
  | .reg r => [modrmByte 3 g r]
  | .mem m => encodeMem g m

def encodeRm8 (g : BitVec 3) (rm : Rm Reg8) : List Byte := encodeRm g (rm.map Reg8.num)

def encodeRm16 (g : BitVec 3) (rm : Rm Reg16) : List Byte := encodeRm g (rm.map Reg16.num)

/-- The bytes of an instruction, in the order they stand in memory (R102). -/
def encode : Instr → List Byte
  | .addRm8R8 rm r => 0x00 :: encodeRm8 r.num rm
  | .addRm16R16 rm r => 0x01 :: encodeRm16 r.num rm
  | .addR8Rm8 r rm => 0x02 :: encodeRm8 r.num rm
  | .addR16Rm16 r rm => 0x03 :: encodeRm16 r.num rm
  | .addAlIb ib => [0x04, ib]
  | .addAxIw iw => 0x05 :: encodeWord iw
  | .addRm8Ib rm ib => 0x80 :: (encodeRm8 0 rm ++ [ib])
  | .addRm16Iw rm iw => 0x81 :: (encodeRm16 0 rm ++ encodeWord iw)
  | .addRm8IbAlt rm ib => 0x82 :: (encodeRm8 0 rm ++ [ib])
  | .addRm16Ib rm ib => 0x83 :: (encodeRm16 0 rm ++ [ib])
  | .orRm8R8 rm r => 0x08 :: encodeRm8 r.num rm
  | .orRm16R16 rm r => 0x09 :: encodeRm16 r.num rm
  | .orR8Rm8 r rm => 0x0A :: encodeRm8 r.num rm
  | .orR16Rm16 r rm => 0x0B :: encodeRm16 r.num rm
  | .orAlIb ib => [0x0C, ib]
  | .orAxIw iw => 0x0D :: encodeWord iw
  | .orRm8Ib rm ib => 0x80 :: (encodeRm8 1 rm ++ [ib])
  | .orRm16Iw rm iw => 0x81 :: (encodeRm16 1 rm ++ encodeWord iw)
  | .orRm8IbAlt rm ib => 0x82 :: (encodeRm8 1 rm ++ [ib])
  | .orRm16Ib rm ib => 0x83 :: (encodeRm16 1 rm ++ [ib])
  | .adcRm8R8 rm r => 0x10 :: encodeRm8 r.num rm
  | .adcRm16R16 rm r => 0x11 :: encodeRm16 r.num rm
  | .adcR8Rm8 r rm => 0x12 :: encodeRm8 r.num rm
  | .adcR16Rm16 r rm => 0x13 :: encodeRm16 r.num rm
  | .adcAlIb ib => [0x14, ib]
  | .adcAxIw iw => 0x15 :: encodeWord iw
  | .adcRm8Ib rm ib => 0x80 :: (encodeRm8 2 rm ++ [ib])
  | .adcRm16Iw rm iw => 0x81 :: (encodeRm16 2 rm ++ encodeWord iw)
  | .adcRm8IbAlt rm ib => 0x82 :: (encodeRm8 2 rm ++ [ib])
  | .adcRm16Ib rm ib => 0x83 :: (encodeRm16 2 rm ++ [ib])
  | .sbbRm8R8 rm r => 0x18 :: encodeRm8 r.num rm
  | .sbbRm16R16 rm r => 0x19 :: encodeRm16 r.num rm
  | .sbbR8Rm8 r rm => 0x1A :: encodeRm8 r.num rm
  | .sbbR16Rm16 r rm => 0x1B :: encodeRm16 r.num rm
  | .sbbAlIb ib => [0x1C, ib]
  | .sbbAxIw iw => 0x1D :: encodeWord iw
  | .sbbRm8Ib rm ib => 0x80 :: (encodeRm8 3 rm ++ [ib])
  | .sbbRm16Iw rm iw => 0x81 :: (encodeRm16 3 rm ++ encodeWord iw)
  | .sbbRm8IbAlt rm ib => 0x82 :: (encodeRm8 3 rm ++ [ib])
  | .sbbRm16Ib rm ib => 0x83 :: (encodeRm16 3 rm ++ [ib])
  | .andRm8R8 rm r => 0x20 :: encodeRm8 r.num rm
  | .andRm16R16 rm r => 0x21 :: encodeRm16 r.num rm
  | .andR8Rm8 r rm => 0x22 :: encodeRm8 r.num rm
  | .andR16Rm16 r rm => 0x23 :: encodeRm16 r.num rm
  | .andAlIb ib => [0x24, ib]
  | .andAxIw iw => 0x25 :: encodeWord iw
  | .andRm8Ib rm ib => 0x80 :: (encodeRm8 4 rm ++ [ib])
  | .andRm16Iw rm iw => 0x81 :: (encodeRm16 4 rm ++ encodeWord iw)
  | .andRm8IbAlt rm ib => 0x82 :: (encodeRm8 4 rm ++ [ib])
  | .andRm16Ib rm ib => 0x83 :: (encodeRm16 4 rm ++ [ib])
  | .subRm8R8 rm r => 0x28 :: encodeRm8 r.num rm
  | .subRm16R16 rm r => 0x29 :: encodeRm16 r.num rm
  | .subR8Rm8 r rm => 0x2A :: encodeRm8 r.num rm
  | .subR16Rm16 r rm => 0x2B :: encodeRm16 r.num rm
  | .subAlIb ib => [0x2C, ib]
  | .subAxIw iw => 0x2D :: encodeWord iw
  | .subRm8Ib rm ib => 0x80 :: (encodeRm8 5 rm ++ [ib])
  | .subRm16Iw rm iw => 0x81 :: (encodeRm16 5 rm ++ encodeWord iw)
  | .subRm8IbAlt rm ib => 0x82 :: (encodeRm8 5 rm ++ [ib])
  | .subRm16Ib rm ib => 0x83 :: (encodeRm16 5 rm ++ [ib])
  | .xorRm8R8 rm r => 0x30 :: encodeRm8 r.num rm
  | .xorRm16R16 rm r => 0x31 :: encodeRm16 r.num rm
  | .xorR8Rm8 r rm => 0x32 :: encodeRm8 r.num rm
  | .xorR16Rm16 r rm => 0x33 :: encodeRm16 r.num rm
  | .xorAlIb ib => [0x34, ib]
  | .xorAxIw iw => 0x35 :: encodeWord iw
  | .xorRm8Ib rm ib => 0x80 :: (encodeRm8 6 rm ++ [ib])
  | .xorRm16Iw rm iw => 0x81 :: (encodeRm16 6 rm ++ encodeWord iw)
  | .xorRm8IbAlt rm ib => 0x82 :: (encodeRm8 6 rm ++ [ib])
  | .xorRm16Ib rm ib => 0x83 :: (encodeRm16 6 rm ++ [ib])
  | .cmpRm8R8 rm r => 0x38 :: encodeRm8 r.num rm
  | .cmpRm16R16 rm r => 0x39 :: encodeRm16 r.num rm
  | .cmpR8Rm8 r rm => 0x3A :: encodeRm8 r.num rm
  | .cmpR16Rm16 r rm => 0x3B :: encodeRm16 r.num rm
  | .cmpAlIb ib => [0x3C, ib]
  | .cmpAxIw iw => 0x3D :: encodeWord iw
  | .cmpRm8Ib rm ib => 0x80 :: (encodeRm8 7 rm ++ [ib])
  | .cmpRm16Iw rm iw => 0x81 :: (encodeRm16 7 rm ++ encodeWord iw)
  | .cmpRm8IbAlt rm ib => 0x82 :: (encodeRm8 7 rm ++ [ib])
  | .cmpRm16Ib rm ib => 0x83 :: (encodeRm16 7 rm ++ [ib])
  | .incR16 r => [opcodePlus 0x40 r.num]
  | .incRm8 rm => 0xFE :: encodeRm8 0 rm
  | .incRm16 rm => 0xFF :: encodeRm16 0 rm
  | .decR16 r => [opcodePlus 0x48 r.num]
  | .decRm8 rm => 0xFE :: encodeRm8 1 rm
  | .decRm16 rm => 0xFF :: encodeRm16 1 rm
  | .negRm8 rm => 0xF6 :: encodeRm8 3 rm
  | .negRm16 rm => 0xF7 :: encodeRm16 3 rm
  | .mulRm8 rm => 0xF6 :: encodeRm8 4 rm
  | .mulRm16 rm => 0xF7 :: encodeRm16 4 rm
  | .imulRm8 rm => 0xF6 :: encodeRm8 5 rm
  | .imulRm16 rm => 0xF7 :: encodeRm16 5 rm
  | .divRm8 rm => 0xF6 :: encodeRm8 6 rm
  | .divRm16 rm => 0xF7 :: encodeRm16 6 rm
  | .idivRm8 rm => 0xF6 :: encodeRm8 7 rm
  | .idivRm16 rm => 0xF7 :: encodeRm16 7 rm
  | .notRm8 rm => 0xF6 :: encodeRm8 2 rm
  | .notRm16 rm => 0xF7 :: encodeRm16 2 rm
  | .testRm8R8 rm r => 0x84 :: encodeRm8 r.num rm
  | .testRm16R16 rm r => 0x85 :: encodeRm16 r.num rm
  | .testAlIb ib => [0xA8, ib]
  | .testAxIw iw => 0xA9 :: encodeWord iw
  | .testRm8Ib rm ib => 0xF6 :: (encodeRm8 0 rm ++ [ib])
  | .testRm16Iw rm iw => 0xF7 :: (encodeRm16 0 rm ++ encodeWord iw)
  | .rolRm8One rm => 0xD0 :: encodeRm8 0 rm
  | .rolRm16One rm => 0xD1 :: encodeRm16 0 rm
  | .rolRm8Cl rm => 0xD2 :: encodeRm8 0 rm
  | .rolRm16Cl rm => 0xD3 :: encodeRm16 0 rm
  | .rorRm8One rm => 0xD0 :: encodeRm8 1 rm
  | .rorRm16One rm => 0xD1 :: encodeRm16 1 rm
  | .rorRm8Cl rm => 0xD2 :: encodeRm8 1 rm
  | .rorRm16Cl rm => 0xD3 :: encodeRm16 1 rm
  | .rclRm8One rm => 0xD0 :: encodeRm8 2 rm
  | .rclRm16One rm => 0xD1 :: encodeRm16 2 rm
  | .rclRm8Cl rm => 0xD2 :: encodeRm8 2 rm
  | .rclRm16Cl rm => 0xD3 :: encodeRm16 2 rm
  | .rcrRm8One rm => 0xD0 :: encodeRm8 3 rm
  | .rcrRm16One rm => 0xD1 :: encodeRm16 3 rm
  | .rcrRm8Cl rm => 0xD2 :: encodeRm8 3 rm
  | .rcrRm16Cl rm => 0xD3 :: encodeRm16 3 rm
  | .shlRm8One rm => 0xD0 :: encodeRm8 4 rm
  | .shlRm16One rm => 0xD1 :: encodeRm16 4 rm
  | .shlRm8Cl rm => 0xD2 :: encodeRm8 4 rm
  | .shlRm16Cl rm => 0xD3 :: encodeRm16 4 rm
  | .shrRm8One rm => 0xD0 :: encodeRm8 5 rm
  | .shrRm16One rm => 0xD1 :: encodeRm16 5 rm
  | .shrRm8Cl rm => 0xD2 :: encodeRm8 5 rm
  | .shrRm16Cl rm => 0xD3 :: encodeRm16 5 rm
  | .sarRm8One rm => 0xD0 :: encodeRm8 7 rm
  | .sarRm16One rm => 0xD1 :: encodeRm16 7 rm
  | .sarRm8Cl rm => 0xD2 :: encodeRm8 7 rm
  | .sarRm16Cl rm => 0xD3 :: encodeRm16 7 rm
  | .movRm8R8 rm r => 0x88 :: encodeRm8 r.num rm
  | .movRm16R16 rm r => 0x89 :: encodeRm16 r.num rm
  | .movR8Rm8 r rm => 0x8A :: encodeRm8 r.num rm
  | .movR16Rm16 r rm => 0x8B :: encodeRm16 r.num rm
  | .movRm16Sreg rm sr => 0x8C :: encodeRm16 sr.num3 rm
  | .movSregRm16 sr rm => 0x8E :: encodeRm16 sr.num3 rm
  | .movAlMoffs off => 0xA0 :: encodeWord off
  | .movAxMoffs off => 0xA1 :: encodeWord off
  | .movMoffsAl off => 0xA2 :: encodeWord off
  | .movMoffsAx off => 0xA3 :: encodeWord off
  | .movR8Ib r ib => [opcodePlus 0xB0 r.num, ib]
  | .movR16Iw r iw => opcodePlus 0xB8 r.num :: encodeWord iw
  | .movRm8Ib rm ib => 0xC6 :: (encodeRm8 0 rm ++ [ib])
  | .movRm16Iw rm iw => 0xC7 :: (encodeRm16 0 rm ++ encodeWord iw)
  | .xchgRm8R8 rm r => 0x86 :: encodeRm8 r.num rm
  | .xchgRm16R16 rm r => 0x87 :: encodeRm16 r.num rm
  | .xchgAxR16 r => [opcodePlus 0x90 r.num]
  | .leaR16M r m => 0x8D :: encodeMem r.num m
  | .lesR16M r m => 0xC4 :: encodeMem r.num m
  | .ldsR16M r m => 0xC5 :: encodeMem r.num m
  | .pushR16 r => [opcodePlus 0x50 r.num]
  | .pushRm16 rm => 0xFF :: encodeRm16 6 rm
  | .pushEs => [0x06]
  | .pushCs => [0x0E]
  | .pushSs => [0x16]
  | .pushDs => [0x1E]
  | .popR16 r => [opcodePlus 0x58 r.num]
  | .popRm16 rm => 0x8F :: encodeRm16 0 rm
  | .popEs => [0x07]
  | .popSs => [0x17]
  | .popDs => [0x1F]
  | .jo cb => [0x70, cb]
  | .jno cb => [0x71, cb]
  | .jb cb => [0x72, cb]
  | .jnb cb => [0x73, cb]
  | .je cb => [0x74, cb]
  | .jne cb => [0x75, cb]
  | .jbe cb => [0x76, cb]
  | .jnbe cb => [0x77, cb]
  | .js cb => [0x78, cb]
  | .jns cb => [0x79, cb]
  | .jp cb => [0x7A, cb]
  | .jnp cb => [0x7B, cb]
  | .jl cb => [0x7C, cb]
  | .jnl cb => [0x7D, cb]
  | .jle cb => [0x7E, cb]
  | .jnle cb => [0x7F, cb]
  | .jmpShort cb => [0xEB, cb]
  | .jmpNear cw => 0xE9 :: encodeWord cw
  | .jmpFar off seg => 0xEA :: (encodeWord off ++ encodeWord seg)
  | .jmpRm16 rm => 0xFF :: encodeRm16 4 rm
  | .jmpM1616 m => 0xFF :: encodeMem 5 m
  | .callNear cw => 0xE8 :: encodeWord cw
  | .callFar off seg => 0x9A :: (encodeWord off ++ encodeWord seg)
  | .callRm16 rm => 0xFF :: encodeRm16 2 rm
  | .callM1616 m => 0xFF :: encodeMem 3 m
  | .ret => [0xC3]
  | .retIw iw => 0xC2 :: encodeWord iw
  | .retf => [0xCB]
  | .retfIw iw => 0xCA :: encodeWord iw
  | .loopne cb => [0xE0, cb]
  | .loope cb => [0xE1, cb]
  | .loop cb => [0xE2, cb]
  | .jcxz cb => [0xE3, cb]
  | .clc => [0xF8]
  | .stc => [0xF9]
  | .cli => [0xFA]
  | .sti => [0xFB]
  | .cld => [0xFC]
  | .std => [0xFD]
  | .cmc => [0xF5]
  | .movsb => [0xA4]
  | .movsw => [0xA5]
  | .cmpsb => [0xA6]
  | .cmpsw => [0xA7]
  | .stosb => [0xAA]
  | .stosw => [0xAB]
  | .lodsb => [0xAC]
  | .lodsw => [0xAD]
  | .scasb => [0xAE]
  | .scasw => [0xAF]
  | .inAlIb ib => [0xE4, ib]
  | .inAxIb ib => [0xE5, ib]
  | .inAlDx => [0xEC]
  | .inAxDx => [0xED]
  | .outIbAl ib => [0xE6, ib]
  | .outIbAx ib => [0xE7, ib]
  | .outDxAl => [0xEE]
  | .outDxAx => [0xEF]
  | .prefixEs => [0x26]
  | .prefixCs => [0x2E]
  | .prefixSs => [0x36]
  | .prefixDs => [0x3E]
  | .prefixRepne => [0xF2]
  | .prefixRep => [0xF3]
  | .hlt => [0xF4]
  | .invalidOp op => [op]
  | .invalidMrm op g rm => op :: encodeRm g rm

/-! ### The words of the opcode table

spec/opcode_table.json numbers an instruction's first two bytes as the pair `(byte0 << 8) | byte1` (R122): the opcode
byte is bits 15..8. Further bytes count on in the same way, pair by pair. -/

/-- The six bytes, in storage order, of an instruction whose bits the table numbers as `w` (`nbits` of them; the
bits above are zero). -/
def tableBytes (nbits w : Nat) : List Byte :=
  let v := w % 2 ^ nbits
  if nbits ≤ 8 then [BitVec.ofNat 8 v, 0, 0, 0, 0, 0]
  else [8, 0, 24, 16, 40, 32].map fun k => BitVec.ofNat 8 (v / 2 ^ k)

/-- The instruction the decoder reads from a table word. -/
def decodeTableWord (nbits w : Nat) : Option Instr :=
  match decode (tableBytes nbits w) with
  | .ok (i, _) => some i
  | .error _ => none

end Sys2Proof
end

