-- ==== Sys2Proof/Config.lean ====
section
/-! DEFINITION. What the platform or the implementation fixes (spec/00_scope.md R7) and the free values:
the records of the memory map and of a device's answer, and the opaque constants that stand for what
the spec leaves open. (The memory map and the port map themselves are fields of the state, so that a
claim holds for every map; the default map of R66 is `Machine.defaultAreas`.) -/

namespace Sys2Proof

/-- One MemoryArea of the bus: physical addresses `start..stop` inclusive, with its two flags
(spec/20_memory.md R61). The bytes stand in the state's memory, keyed by physical address. -/
structure MemArea where
  start    : Nat
  stop     : Nat
  readable : Bool
  writable : Bool
deriving DecidableEq, Repr

/-- What a port device is asked during one callback (R71, R72). -/
inductive PortRequest where
  /-- `D.read_cb()` of the device registered at `port` -/
  | read (port : Word)
  /-- `D.write_cb(value)` of the device registered at `port` -/
  | write (port : Word) (value : Byte)
deriving DecidableEq, Repr

/-- What a device does in one callback: the byte a read callback returns (a write callback returns
nothing and its `value` is ignored), and the byte writes it makes on the bus, in order
(R71 "the call may change the device's state", R74 and spec/47_io.md R364 "through the Bus, memory"). -/
structure DeviceAnswer where
  value  : Byte
  writes : List (Addr × Byte)
deriving DecidableEq, Repr, Inhabited

/-- `UNDEFINED_FLAG_VALUES` of R7: the free bit `any()` of draw number `n` (spec/10_state.md R46).
No body that Lean can evaluate: nothing about its value can be proved. -/
opaque Config.freeFlag : Nat → Bool

/-- The oracle of the port devices of R71 (spec/93_implementation_defined.md U22): what the device answers
to a request that no recorded answer of the state's input stream covers, at draw number `n`. -/
opaque Config.deviceAnswer : Nat → PortRequest → DeviceAnswer

/-- `RESET_UNDEFINED_REGS` of R7: the value that register number `k` of the eleven unspecified ones holds
after the `reset()` that starts at draw number `n` (spec/70_reset_and_hazards.md R410). -/
opaque Config.resetRegister : Nat → Nat → Word

end Sys2Proof
end

