-- ==== Sys2Proof/Machine/Memory.lean ====
section
/-! DEFINITION. The byte store behind the bus: a list of (address, byte) cells in one canonical form, its one read and
its one write, and the default memory map (spec/20_memory.md R61, R66). -/

namespace Sys2Proof.Machine

/-- The default `MEMORY_MAP` of R66; the Boolean is `GRAPHICS_APERTURE_PRESENT` of spec/00_scope.md R7.
`0xF0000–0xF5FFF` is the gap that no area covers. -/
def defaultAreas (graphicsAperture : Bool) : List MemArea :=
  [⟨0x00000, 0x9FFFF, true, true⟩] ++
  (if graphicsAperture then [⟨0xA0000, 0xBFFFF, true, true⟩] else []) ++
  [⟨0xC0000, 0xEFFFF, true, false⟩, ⟨0xF6000, 0xFFFFF, true, false⟩]

/-- The area covers the address: `start <= pa <= end` (R61, R62). -/
def areaCovers (a : MemArea) (pa : Addr) : Bool :=
  decide (a.start ≤ pa.toNat) && decide (pa.toNat ≤ a.stop)

/-- What a byte that no cell lists holds. DESIGN CHOICE (log entry 2): the spec leaves `INITIAL_MEMORY` open (R7,
spec/92_eei_decisions.md D14); any initial contents are a list of cells. -/
def Memory.unlisted : Byte := 0

/-- The byte at an address. -/
def Memory.read : List Host.Cell → Nat → Byte
  | [], _ => Memory.unlisted
  | (b, v) :: cells, a => if a = b then v else Memory.read cells a

/-- Store a byte, keeping the canonical form: the cell is inserted in address order, and removed when the value is
what an unlisted address holds. -/
def Memory.write : List Host.Cell → Nat → Byte → List Host.Cell
  | [], a, v => if v = Memory.unlisted then [] else [(a, v)]
  | (b, w) :: cells, a, v =>
    if a < b then
      if v = Memory.unlisted then (b, w) :: cells else (a, v) :: (b, w) :: cells
    else if a = b then
      if v = Memory.unlisted then cells else (a, v) :: cells
    else (b, w) :: Memory.write cells a v

/-- Canonical from address `lo` on: strictly rising 20-bit addresses, no cell holding the unlisted value. -/
def Memory.wfFrom : Nat → List Host.Cell → Bool
  | _, [] => true
  | lo, (a, v) :: cells =>
    decide (lo ≤ a) && decide (a < 2 ^ 20) && !decide (v = Memory.unlisted) && Memory.wfFrom (a + 1) cells

/-- The canonical form of memory. -/
def Memory.wf (m : List Host.Cell) : Bool := Memory.wfFrom 0 m

end Sys2Proof.Machine
end

