-- ==== Sys2Proof/Machine/State.lean ====
section
/-! DEFINITION. The state of the machine (spec/10_state.md), as plain data: the register file, IP, FLAGS, the run
state and fault record, the decode latches, memory and its map, the port map; and the model's own fields (the input
stream and the record of the port devices' callbacks, the draw counter of the free values). Also the two ways a step
can stop, and the state after construction. -/

namespace Sys2Proof.Machine

/-- AX..DI (R20). The 8-bit registers are views of AX, BX, CX, DX (R21, R22). -/
structure Regs where
  ax : Word
  cx : Word
  dx : Word
  bx : Word
  sp : Word
  bp : Word
  si : Word
  di : Word
deriving DecidableEq, Repr

/-- ES, CS, SS, DS (R24): plain 16-bit numbers (R25). -/
structure SegRegs where
  es : Word
  cs : Word
  ss : Word
  ds : Word
deriving DecidableEq, Repr

/-- FLAGS: the nine defined bits (R29). The reserved bits 1, 3, 5 and 12..15 are 0 in every reachable state and no
instruction moves FLAGS as a word, so "a model may keep nine Booleans" (R30, spec/91_not_in_source.md N6); the 16-bit
word is `Flags.toWord`. -/
structure Flags where
  CF : Bool
  PF : Bool
  AF : Bool
  ZF : Bool
  SF : Bool
  TF : Bool
  IF : Bool
  DF : Bool
  OF : Bool
deriving DecidableEq, Repr

/-- `run_state` (R38). -/
inductive RunState where
  | reset | running | halted | faulted
deriving DecidableEq, Repr

/-- The two exception causes (spec/60_exceptions.md R380). -/
inductive Cause where
  | invalidOpcode | divideError
deriving DecidableEq, Repr

/-- The fault record `(cause, cs, ip0)` (R39). -/
structure FaultRecord where
  cause : Cause
  cs    : Word
  ip0   : Word
deriving DecidableEq, Repr

/-- `rep_mode` (R37): `REP` is byte `F3`, `REPNE` byte `F2`. -/
inductive RepMode where
  | rep | repne
deriving DecidableEq, Repr

/-- One device callback: what the device was asked and what it answered (R71, R72, R74). -/
structure PortEvent where
  request : PortRequest
  answer  : DeviceAnswer
deriving DecidableEq, Repr

/-- The machine. -/
structure State where
  regs        : Regs
  sregs       : SegRegs
  /-- IP (R26, R27) -/
  ip          : Word
  flags       : Flags
  runState    : RunState
  /-- the fault record, empty before the first fault (R39) -/
  fault       : Option FaultRecord
  /-- the decode latch `seg_override`, empty between steps (R37) -/
  segOverride : Option Sreg
  /-- the decode latch `rep_mode`, empty between steps (R37) -/
  repMode     : Option RepMode
  /-- `ip0` of the step in progress: IP when the step began (spec/00_scope.md R11); 0 between steps -/
  ip0         : Word
  /-- the bytes of the memory areas, keyed by physical address, in canonical form (R48, spec/20_memory.md R61) -/
  mem         : List Host.Cell
  /-- `MEMORY_MAP`: the attached areas in registration order (R64); no step changes it (R415) -/
  areas       : List MemArea
  /-- the registered port numbers of `PORT_MAP` (R70); no step changes it (R415) -/
  ports       : List Word
  /-- the model's own: the devices' answers to come, an input stream (R71, spec/93_implementation_defined.md U22) -/
  answers     : List DeviceAnswer
  /-- the model's own: the callbacks made so far, oldest first (what the devices saw: R71 to R74, R83) -/
  portLog     : List PortEvent
  /-- the model's own: how many free values have been drawn (R46) -/
  draws       : Nat
deriving DecidableEq, Repr

/-- Why the machine stops for good with no next state. -/
inductive Fault where
  /-- A step that never ends: every byte of the code segment is a prefix byte, so the fetch loop of
  spec/30_encoding.md R120 reads prefixes for ever (R130, "A model treats it as a hang"; U13 "a model may bound the
  loop by fuel and report non-termination"). Raised by `runItems` only. Safe: the hardware has no next state either. -/
  | prefixHang
deriving DecidableEq, Repr

/-- Why the model gives no meaning. -/
inductive Refusal where
  /-- An instruction without a meaning yet, raised by `exec` only. Safe. -/
  | notModelled (mnemonic : String)
  /-- The fetched bytes do not decode. Raised by `runItems` only, and never: six bytes always decode. Safe. -/
  | undecodable
deriving DecidableEq, Repr

/-- The machine right after construction (R36, spec/70_reset_and_hazards.md R410, R413): CS, IP and FLAGS as the spec
says. DESIGN CHOICE (log entries 1 to 4, 7): zero in the eleven registers the spec leaves unspecified, no byte of
memory listed, the default map with the graphics aperture, no port registered, no recorded device answer. -/
def State.reset : State where
  regs := ⟨0, 0, 0, 0, 0, 0, 0, 0⟩
  sregs := { es := 0, cs := 0xFFFF, ss := 0, ds := 0 }
  ip := 0x0000
  flags := ⟨false, false, false, false, false, false, false, false, false⟩
  runState := .reset
  fault := none
  segOverride := none
  repMode := none
  ip0 := 0
  mem := []
  areas := defaultAreas true
  ports := []
  answers := []
  portLog := []
  draws := 0

end Sys2Proof.Machine
end

