-- ==== Sys2Proof/Machine/Flags.lean ====
section
/-! DEFINITION. Every flag computation of the spec: the FLAGS word of spec/10_state.md R29, the helpers of R40 to R45,
the multiply and divide flags of spec/41_arithmetic.md R209 to R212, and the single-bit steps and flags of
spec/43_shift_rotate.md R271 to R278. A flag the spec leaves `any()` (R46) is an argument: the meaning draws it. -/

namespace Sys2Proof.Machine

/-- One bit of a word at a position. -/
def bitAt (n : Nat) (b : Bool) : Word := if b then BitVec.ofNat 16 (2 ^ n) else 0

/-- The 16-bit FLAGS word (R29); the reserved bits are 0 (R30). -/
def Flags.toWord (f : Flags) : Word :=
  bitAt 11 f.OF ||| bitAt 10 f.DF ||| bitAt 9 f.IF ||| bitAt 8 f.TF ||| bitAt 7 f.SF ||| bitAt 6 f.ZF |||
  bitAt 4 f.AF ||| bitAt 2 f.PF ||| bitAt 0 f.CF

/-- The flags a 16-bit word holds (R29). -/
def Flags.ofWord (w : Word) : Flags where
  CF := w.getLsbD 0
  PF := w.getLsbD 2
  AF := w.getLsbD 4
  ZF := w.getLsbD 6
  SF := w.getLsbD 7
  TF := w.getLsbD 8
  IF := w.getLsbD 9
  DF := w.getLsbD 10
  OF := w.getLsbD 11

/-- `Parity8(v)`: the number of 1 bits of `v` is even (R40). -/
def parity8 (v : Byte) : Bool :=
  !(v.getLsbD 0 ^^ v.getLsbD 1 ^^ v.getLsbD 2 ^^ v.getLsbD 3 ^^
    v.getLsbD 4 ^^ v.getLsbD 5 ^^ v.getLsbD 6 ^^ v.getLsbD 7)

/-- `SetSZP(w, r)` (R41): PF looks at the low 8 bits only (R32). -/
def setSZP {w : Nat} (r : BitVec w) (f : Flags) : Flags :=
  { f with SF := r.msb, ZF := decide (r = 0), PF := parity8 (r.setWidth 8) }

/-- `AddFlags(w, a, b, cin)` (R42): the result and the flags. -/
def addFlags {w : Nat} (a b : BitVec w) (cin : Bool) (f : Flags) : BitVec w × Flags :=
  let s := a.toNat + b.toNat + cin.toNat
  let r := BitVec.ofNat w s
  (r, setSZP r { f with
    CF := decide (2 ^ w ≤ s)
    OF := ((a ^^^ r) &&& (b ^^^ r)).msb
    AF := (a ^^^ b ^^^ r).getLsbD 4 })

/-- `SubFlags(w, a, b, bin)` (R43): the result and the flags. -/
def subFlags {w : Nat} (a b : BitVec w) (bin : Bool) (f : Flags) : BitVec w × Flags :=
  let d : Int := a.toNat - b.toNat - bin.toNat
  let r := BitVec.ofInt w d
  (r, setSZP r { f with
    CF := decide (d < 0)
    OF := ((a ^^^ b) &&& (a ^^^ r)).msb
    AF := (a ^^^ b ^^^ r).getLsbD 4 })

/-- `LogicFlags(w, r)` (R44); `af` is the free value of AF. -/
def logicFlags {w : Nat} (r : BitVec w) (af : Bool) (f : Flags) : Flags :=
  setSZP r { f with CF := false, OF := false, AF := af }

/-- `IncFlags(w, a)` (R45): CF is unchanged; OF iff the pre-value was `7F…`. -/
def incFlags {w : Nat} (a : BitVec w) (f : Flags) : BitVec w × Flags :=
  let r := a + 1
  (r, setSZP r { f with
    OF := decide (a = BitVec.ofNat w (2 ^ (w - 1) - 1))
    AF := decide (a.setWidth 4 = 0xF#4) })

/-- `DecFlags(w, a)` (R45): CF is unchanged; OF iff the pre-value was `80…`. -/
def decFlags {w : Nat} (a : BitVec w) (f : Flags) : BitVec w × Flags :=
  let r := a - 1
  (r, setSZP r { f with
    OF := decide (a = BitVec.ofNat w (2 ^ (w - 1)))
    AF := decide (a.setWidth 4 = 0x0#4) })

/-- CF = OF = `carry`; SF, ZF, AF, PF are the free values `u 0..u 3` (R209, R210, spec/93_implementation_defined.md U4). -/
def mulFlags (carry : Bool) (u : Nat → Bool) (f : Flags) : Flags :=
  { f with CF := carry, OF := carry, SF := u 0, ZF := u 1, AF := u 2, PF := u 3 }

/-- All six status flags are free after a division (R211, R212, U4). -/
def divFlags (u : Nat → Bool) (f : Flags) : Flags :=
  { f with CF := u 0, OF := u 1, SF := u 2, ZF := u 3, AF := u 4, PF := u 5 }

/-! ### Shifts and rotates -/

/-- The seven instructions of spec/43_shift_rotate.md. -/
inductive Shift where
  | rol | ror | rcl | rcr | shl | shr | sar
deriving DecidableEq, Repr

/-- The value that is 1 in the top bit iff `b`. -/
def topBit {w : Nat} (b : Bool) : BitVec w := if b then BitVec.ofNat w (2 ^ (w - 1)) else 0

/-- The value that is 1 in bit 0 iff `b`. -/
def lowBit {w : Nat} (b : Bool) : BitVec w := if b then 1 else 0

/-- The single-bit step `Step_n(x, c)` of each instruction (R272 to R278). -/
def Shift.step {w : Nat} : Shift → BitVec w × Bool → BitVec w × Bool
  | .rol, (x, _) => (x <<< 1 ||| lowBit x.msb, x.msb)
  | .ror, (x, _) => (x >>> 1 ||| topBit (x.getLsbD 0), x.getLsbD 0)
  | .rcl, (x, c) => (x <<< 1 ||| lowBit c, x.msb)
  | .rcr, (x, c) => (x >>> 1 ||| topBit c, x.getLsbD 0)
  | .shl, (x, _) => (x <<< 1, x.msb)
  | .shr, (x, _) => (x >>> 1, x.getLsbD 0)
  | .sar, (x, _) => (x >>> 1 ||| topBit x.msb, x.getLsbD 0)

/-- The loop of R271: the value and the carry after `count` steps. -/
def Shift.iterate {w : Nat} (k : Shift) : Nat → BitVec w × Bool → BitVec w × Bool
  | 0, xc => xc
  | n + 1, xc => k.iterate n (k.step xc)

/-- The `OF1` expression: OF after a count of 1, from the operand `x`, the result `x'` and the new CF (R272 to R278). -/
def Shift.of1 {w : Nat} (k : Shift) (x x' : BitVec w) (c' : Bool) : Bool :=
  match k with
  | .rol => x'.msb ^^ c'
  | .ror => x'.msb ^^ x'.getLsbD (w - 2)
  | .rcl => x'.msb ^^ c'
  | .rcr => x'.msb ^^ x'.getLsbD (w - 2)
  | .shl => x'.msb ^^ c'
  | .shr => x.msb
  | .sar => false

/-- SHL, SHR and SAR write SF, ZF, PF and leave AF undefined; the rotates leave the four unchanged (R271). -/
def Shift.isShift : Shift → Bool
  | .rol => false
  | .ror => false
  | .rcl => false
  | .rcr => false
  | .shl => true
  | .shr => true
  | .sar => true

/-- The flags of R271 for a shift of `x` to `x'` by `count` with last bit out `c'`; `u 0` is the free OF of a count
above 1, `u 1` the free AF of a shift. -/
def Shift.flags {w : Nat} (k : Shift) (count : Nat) (x x' : BitVec w) (c' : Bool) (u : Nat → Bool) (f : Flags) : Flags :=
  if count = 0 then f
  else
    let f := { f with CF := c', OF := if count = 1 then k.of1 x x' c' else u 0 }
    if k.isShift then { setSZP x' f with AF := u 1 } else f

end Sys2Proof.Machine
end

