-- ==== Sys2Proof/Machine/Ops.lean ====
section
/-! DEFINITION. The named operations over registers, memory, ports, stack and run state that every meaning is made of
(spec/00_scope.md R10): the register views of spec/10_state.md R20 to R24, the address translation and bus of
spec/20_memory.md R60 to R73, the stack of R76 and R77, the free values of R46, and raising a fault
(spec/60_exceptions.md R381, R382) as one shared operation. -/

namespace Sys2Proof.Machine

/-! ### Registers -/

def Regs.get16 (g : Regs) : Reg16 → Word
  | .ax => g.ax | .cx => g.cx | .dx => g.dx | .bx => g.bx
  | .sp => g.sp | .bp => g.bp | .si => g.si | .di => g.di

def Regs.set16 (g : Regs) (r : Reg16) (v : Word) : Regs :=
  match r with
  | .ax => { g with ax := v } | .cx => { g with cx := v } | .dx => { g with dx := v } | .bx => { g with bx := v }
  | .sp => { g with sp := v } | .bp => { g with bp := v } | .si => { g with si := v } | .di => { g with di := v }

/-- The 16-bit register an 8-bit register is one byte of (R21). -/
def Reg8.home : Reg8 → Reg16
  | .al => .ax | .cl => .cx | .dl => .dx | .bl => .bx | .ah => .ax | .ch => .cx | .dh => .dx | .bh => .bx

/-- The 8-bit register is bits 15..8 of its home (R21). -/
def Reg8.isHigh : Reg8 → Bool
  | .al => false | .cl => false | .dl => false | .bl => false | .ah => true | .ch => true | .dh => true | .bh => true

/-- `R8[n]` (R22). -/
def Regs.get8 (g : Regs) (r : Reg8) : Byte :=
  if Reg8.isHigh r then highByte (g.get16 (Reg8.home r)) else lowByte (g.get16 (Reg8.home r))

/-- `R8[n] <- v`: a read-modify-write of the home register (R22). -/
def Regs.set8 (g : Regs) (r : Reg8) (v : Byte) : Regs :=
  let h := g.get16 (Reg8.home r)
  g.set16 (Reg8.home r) (if Reg8.isHigh r then wordOf (lowByte h) v else wordOf v (highByte h))

def SegRegs.get (g : SegRegs) : Sreg → Word
  | .es => g.es | .cs => g.cs | .ss => g.ss | .ds => g.ds

def SegRegs.set (g : SegRegs) (r : Sreg) (v : Word) : SegRegs :=
  match r with
  | .es => { g with es := v } | .cs => { g with cs := v } | .ss => { g with ss := v } | .ds => { g with ds := v }

/-- `R16[i]` (R20). -/
def State.r16 (s : State) (r : Reg16) : Word := s.regs.get16 r

/-- `R16[i] <- v` (R20). -/
def State.setR16 (s : State) (r : Reg16) (v : Word) : State := { s with regs := s.regs.set16 r v }

/-- `R8[i]` (R21). -/
def State.r8 (s : State) (r : Reg8) : Byte := s.regs.get8 r

/-- `R8[i] <- v` (R22). -/
def State.setR8 (s : State) (r : Reg8) (v : Byte) : State := { s with regs := s.regs.set8 r v }

/-- `SR[i]` (R24). -/
def State.sr (s : State) (r : Sreg) : Word := s.sregs.get r

/-- `SR[i] <- v` (R24). -/
def State.setSr (s : State) (r : Sreg) (v : Word) : State := { s with sregs := s.sregs.set r v }

def State.setIp (s : State) (v : Word) : State := { s with ip := v }

def State.setFlags (s : State) (f : Flags) : State := { s with flags := f }

/-! ### Address translation and the bus -/

/-- `Phys(seg, off)`: `((seg << 4) + off) & 0xFFFFF` (R60). -/
def phys (seg off : Word) : Addr := (seg.setWidth 20 <<< 4) + off.setWidth 20

/-- The first area that covers the address, in registration order (R62, R64). -/
def areaAt (areas : List MemArea) (pa : Addr) : Option MemArea := areas.find? fun a => areaCovers a pa

/-- A read of the address reaches a byte (R62): it is covered, and its area is readable. -/
def isReadable (areas : List MemArea) (pa : Addr) : Bool :=
  match areaAt areas pa with
  | some a => a.readable
  | none => false

/-- A write to the address is stored (R63): it is covered, and its area is writable. -/
def isWritable (areas : List MemArea) (pa : Addr) : Bool :=
  match areaAt areas pa with
  | some a => a.writable
  | none => false

/-- Memory after a byte write on the bus; a write nobody accepts is dropped (R63, R65). -/
def memAfterWrite (areas : List MemArea) (m : List Host.Cell) (pa : Addr) (v : Byte) : List Host.Cell :=
  if isWritable areas pa then Memory.write m pa.toNat v else m

/-- The byte that the memory areas hold at an address, whether or not the bus lets it be read. -/
def State.byteAt (s : State) (pa : Addr) : Byte := Memory.read s.mem pa.toNat

/-- `BusRead8(pa)`: 0 from an unmapped or unreadable address (R62, R65). -/
def State.busRead8 (s : State) (pa : Addr) : Byte := if isReadable s.areas pa then s.byteAt pa else 0

/-- `BusWrite8(pa, v)` (R63). -/
def State.busWrite8 (s : State) (pa : Addr) (v : Byte) : State := { s with mem := memAfterWrite s.areas s.mem pa v }

/-- `MemRead(pa, 2)`: little-endian, the second byte at the next physical address modulo 2^20 (R67). -/
def State.memRead16 (s : State) (pa : Addr) : Word := wordOf (s.busRead8 pa) (s.busRead8 (pa + 1))

/-- `MemWrite(pa, 2, v)`: the low byte first, each byte routed on its own (R68). -/
def State.memWrite16 (s : State) (pa : Addr) (v : Word) : State :=
  (s.busWrite8 pa (lowByte v)).busWrite8 (pa + 1) (highByte v)

/-- `Load(seg, off, 8)` (R69). -/
def State.load8 (s : State) (seg off : Word) : Byte := s.busRead8 (phys seg off)

/-- `Load(seg, off, 16)`: one translation, for the first byte (R69). -/
def State.load16 (s : State) (seg off : Word) : Word := s.memRead16 (phys seg off)

/-- `Store(seg, off, 8, v)` (R69). -/
def State.store8 (s : State) (seg off : Word) (v : Byte) : State := s.busWrite8 (phys seg off) v

/-- `Store(seg, off, 16, v)` (R69). -/
def State.store16 (s : State) (seg off : Word) (v : Word) : State := s.memWrite16 (phys seg off) v

/-! ### The stack -/

/-- `Push16(v)`: SP is decremented first; SS always (R75, R76). -/
def State.push16 (s : State) (v : Word) : State :=
  (s.setR16 .sp (s.regs.sp - 2)).store16 s.sregs.ss (s.regs.sp - 2) v

/-- The word `Pop16()` returns: at SS:SP (R77). -/
def State.stackTop (s : State) : Word := s.load16 s.sregs.ss s.regs.sp

/-- The state after `Pop16()`: SP is incremented (R77). -/
def State.popped (s : State) : State := s.setR16 .sp (s.regs.sp + 2)

/-! ### Free values -/

/-- The `k`-th `any()` of the instruction in progress (R46). -/
def State.free (s : State) (k : Nat) : Bool := Config.freeFlag (s.draws + k)

/-- `n` free values have been drawn. -/
def State.drew (s : State) (n : Nat) : State := { s with draws := s.draws + n }

/-! ### Ports -/

/-- The device's answer to a request: the next of the input stream, else the free oracle (R71). -/
def State.answerTo (s : State) (q : PortRequest) : DeviceAnswer :=
  match s.answers with
  | a :: _ => a
  | [] => Config.deviceAnswer s.draws q

/-- One callback of a registered device (R71, R72): it is recorded, the input stream or the draw counter moves on,
and the device's own writes take place on the bus, in order (R74). -/
def State.callback (s : State) (q : PortRequest) : State :=
  { s with
    mem := (s.answerTo q).writes.foldl (fun m w => memAfterWrite s.areas m w.1 w.2) s.mem
    answers := s.answers.tail
    portLog := s.portLog ++ [⟨q, s.answerTo q⟩]
    draws := if s.answers.isEmpty then s.draws + 1 else s.draws }

/-- A device is registered at the port (R70). -/
def State.registered (s : State) (port : Word) : Bool := s.ports.contains port

/-- The byte `PortRead(port, 1)` returns: 0 from an unregistered port (R71). -/
def State.portByte (s : State) (port : Word) : Byte :=
  if s.registered port then (s.answerTo (.read port)).value else 0

/-- The state after `PortRead(port, 1)` (R71). -/
def State.portRead8 (s : State) (port : Word) : State :=
  if s.registered port then s.callback (.read port) else s

/-- `PortWrite(port, 1, v)`: dropped by an unregistered port (R72). -/
def State.portWrite8 (s : State) (port : Word) (v : Byte) : State :=
  if s.registered port then s.callback (.write port v) else s

/-- The word `PortRead(port, 2)` returns: the low port first, `port + 1` modulo 2^16 (R73). -/
def State.portWord (s : State) (port : Word) : Word :=
  wordOf (s.portByte port) ((s.portRead8 port).portByte (port + 1))

/-- The state after `PortRead(port, 2)` (R73). -/
def State.portRead16 (s : State) (port : Word) : State := (s.portRead8 port).portRead8 (port + 1)

/-- `PortWrite(port, 2, v)`: the low byte to `port`, then the high byte to `port + 1` (R73). -/
def State.portWrite16 (s : State) (port : Word) (v : Word) : State :=
  (s.portWrite8 port (lowByte v)).portWrite8 (port + 1) (highByte v)

/-! ### Control and faults -/

/-- `JumpRelative(condition, disp)` from the IP of the next instruction (spec/44_control_flow.md R290). -/
def State.jumpRelative (s : State) (condition : Bool) (disp : Word) : State :=
  if condition then s.setIp (s.ip + disp) else s

/-- `CS:IP <- seg:off` (R310). -/
def State.jumpFar (s : State) (seg off : Word) : State := (s.setIp off).setSr .cs seg

/-- `raise InvalidOpcode(CS, ip0)` and `raise DivideError(CS, ip0)` (R381, R382): the fault record is made, the run
state becomes `Faulted`, the latches are emptied, and nothing else changes: IP is not rewound, nothing is vectored,
nothing is pushed (R388), and no instruction returns from it. -/
def State.raise (s : State) (c : Cause) : State :=
  { s with fault := some ⟨c, s.sregs.cs, s.ip0⟩, runState := .faulted, segOverride := none, repMode := none }

/-- The outcome of a meaning. -/
abbrev Result := Host.Outcome State Fault Refusal

end Sys2Proof.Machine
end

