-- ==== Sys2Proof/Machine/Operands.lean ====
section
/-! DEFINITION. Every operand form: the effective address and default segment of a ModR/M memory operand
(spec/30_encoding.md R107), the segment override (spec/20_memory.md R75), reading and writing an `r/m` operand (R109),
far pointers, and the shared operations over one or two operands that the families' meanings instantiate. -/

namespace Sys2Proof.Machine

/-- The base sum `B(rm)`, modulo 2^16 (R107). -/
def Regs.baseSum (g : Regs) : RmBase → Word
  | .bxSi => g.bx + g.si
  | .bxDi => g.bx + g.di
  | .bpSi => g.bp + g.si
  | .bpDi => g.bp + g.di
  | .si => g.si
  | .di => g.di
  | .bp => g.bp
  | .bx => g.bx

/-- "Addressing modes involving BP" default to SS, every other to DS (R75, R107). -/
def RmBase.defaultSeg : RmBase → Sreg
  | .bxSi => .ds
  | .bxDi => .ds
  | .bpSi => .ss
  | .bpDi => .ss
  | .si => .ds
  | .di => .ds
  | .bp => .ss
  | .bx => .ds

/-- The effective address, a 16-bit offset (R107). -/
def State.ea (s : State) : MemOp → Word
  | .ind b => s.regs.baseSum b
  | .direct d => d
  | .disp8 b d => s.regs.baseSum b + signExtend8 d
  | .disp16 b d => s.regs.baseSum b + d

/-- The default segment of a memory operand; the direct form does not involve BP (R107). -/
def MemOp.defaultSeg : MemOp → Sreg
  | .ind b => RmBase.defaultSeg b
  | .direct _ => .ds
  | .disp8 b _ => RmBase.defaultSeg b
  | .disp16 b _ => RmBase.defaultSeg b

/-- `DataSeg(default)`: the override latch if set, else the default segment register's value (R75). -/
def State.dataSeg (s : State) (default : Sreg) : Word := s.sr (s.segOverride.getD default)

/-- The segment value of a memory operand (R75, R109). -/
def State.memSeg (s : State) (m : MemOp) : Word := s.dataSeg (MemOp.defaultSeg m)

/-- The physical address of a memory operand's first byte (R109, R69). -/
def State.memAddr (s : State) (m : MemOp) : Addr := phys (s.memSeg m) (s.ea m)

/-- `ReadRM(8)` (R109). -/
def State.readRm8 (s : State) : Rm Reg8 → Byte
  | .reg r => s.r8 r
  | .mem m => s.load8 (s.memSeg m) (s.ea m)

/-- `WriteRM(8, v)` (R109). -/
def State.writeRm8 (s : State) (rm : Rm Reg8) (v : Byte) : State :=
  match rm with
  | .reg r => s.setR8 r v
  | .mem m => s.store8 (s.memSeg m) (s.ea m) v

/-- `ReadRM(16)` (R109). -/
def State.readRm16 (s : State) : Rm Reg16 → Word
  | .reg r => s.r16 r
  | .mem m => s.load16 (s.memSeg m) (s.ea m)

/-- `WriteRM(16, v)` (R109). -/
def State.writeRm16 (s : State) (rm : Rm Reg16) (v : Word) : State :=
  match rm with
  | .reg r => s.setR16 r v
  | .mem m => s.store16 (s.memSeg m) (s.ea m) v

/-- The offset word of a far pointer in memory (R69, spec/40_data_movement.md R169). -/
def State.farOffset (s : State) (m : MemOp) : Word := s.load16 (s.memSeg m) (s.ea m)

/-- The segment word of a far pointer in memory: a separate access, at offset `EA + 2` modulo 2^16 (R69, R169). -/
def State.farSegment (s : State) (m : MemOp) : Word := s.load16 (s.memSeg m) (s.ea m + 2)

/-! ### Two-operand ALU instructions -/

/-- The eight operations of spec/41_arithmetic.md R200. -/
inductive Alu where
  | add | or | adc | sbb | and | sub | xor | cmp
deriving DecidableEq, Repr

/-- The result and the flags of `f(w, a, b)` (R201 to R205, spec/42_logic.md R250 to R252); `af` is the free AF of a
logic operation. The carry-in is read before any flag is written. -/
def Alu.compute {w : Nat} (k : Alu) (a b : BitVec w) (af : Bool) (f : Flags) : BitVec w × Flags :=
  match k with
  | .add => addFlags a b false f
  | .or => (a ||| b, logicFlags (a ||| b) af f)
  | .adc => addFlags a b f.CF f
  | .sbb => subFlags a b f.CF f
  | .and => (a &&& b, logicFlags (a &&& b) af f)
  | .sub => subFlags a b false f
  | .xor => (a ^^^ b, logicFlags (a ^^^ b) af f)
  | .cmp => subFlags a b false f

/-- How many free values the operation draws: the AF of a logic operation (R44). -/
def Alu.drawn : Alu → Nat
  | .add => 0
  | .or => 1
  | .adc => 0
  | .sbb => 0
  | .and => 1
  | .sub => 0
  | .xor => 1
  | .cmp => 0

/-- CMP discards its result (R205). -/
def Alu.writes : Alu → Bool
  | .add => true
  | .or => true
  | .adc => true
  | .sbb => true
  | .and => true
  | .sub => true
  | .xor => true
  | .cmp => false

/-- The common operation of R200 with a byte destination and a source value `b` already read. -/
def alu8 (k : Alu) (dst : Rm Reg8) (b : Byte) (s : State) : State :=
  let rf := k.compute (s.readRm8 dst) b (s.free 0) s.flags
  let s := (s.setFlags rf.2).drew k.drawn
  if k.writes then s.writeRm8 dst rf.1 else s

/-- The common operation of R200 with a word destination and a source value `b` already read. -/
def alu16 (k : Alu) (dst : Rm Reg16) (b : Word) (s : State) : State :=
  let rf := k.compute (s.readRm16 dst) b (s.free 0) s.flags
  let s := (s.setFlags rf.2).drew k.drawn
  if k.writes then s.writeRm16 dst rf.1 else s

/-- TEST on two bytes: only FLAGS is written (R254). -/
def test8 (a b : Byte) (s : State) : State :=
  (s.setFlags (logicFlags (a &&& b) (s.free 0) s.flags)).drew 1

/-- TEST on two words (R254). -/
def test16 (a b : Word) (s : State) : State :=
  (s.setFlags (logicFlags (a &&& b) (s.free 0) s.flags)).drew 1

/-! ### Shifts and rotates -/

/-- How many draw numbers a shift or rotate by `count` uses up: none by 0; else two, one for the OF of a count above 1
and one for the AF of a shift, whether or not this count and instruction leave them undefined (R271). -/
def shiftDrawn (count : Nat) : Nat := if count = 0 then 0 else 2

/-- The common algorithm of spec/43_shift_rotate.md R271 on a byte: one read, the loop, one write (also for count 0). -/
def shift8 (k : Shift) (rm : Rm Reg8) (count : Nat) (s : State) : State :=
  let x := s.readRm8 rm
  let xc := k.iterate count (x, s.flags.CF)
  ((s.setFlags (k.flags count x xc.1 xc.2 s.free s.flags)).drew (shiftDrawn count)).writeRm8 rm xc.1

/-- The common algorithm of R271 on a word. -/
def shift16 (k : Shift) (rm : Rm Reg16) (count : Nat) (s : State) : State :=
  let x := s.readRm16 rm
  let xc := k.iterate count (x, s.flags.CF)
  ((s.setFlags (k.flags count x xc.1 xc.2 s.free s.flags)).drew (shiftDrawn count)).writeRm16 rm xc.1

/-- The count of the forms `D2`, `D3`: all eight bits of CL (R270). -/
def State.clCount (s : State) : Nat := (s.r8 .cl).toNat

end Sys2Proof.Machine
end

