-- ==== Sys2Proof/Machine/Arithmetic.lean ====
section
/-! DEFINITION. The arithmetic instructions (spec/41_arithmetic.md): the ten forms of R200 for ADD, ADC, SUB, SBB and CMP,
INC, DEC, NEG, and multiplication and division. -/

namespace Sys2Proof.Machine

/-! ### ADD (R201) -/

/-- `00 /r`: ADD r/m8,r8 -/
def execAddRm8R8 (rm : Rm Reg8) (r : Reg8) (s : State) : Result :=
  .next (alu8 .add rm (s.r8 r) s)

/-- `01 /r`: ADD r/m16,r16 -/
def execAddRm16R16 (rm : Rm Reg16) (r : Reg16) (s : State) : Result :=
  .next (alu16 .add rm (s.r16 r) s)

/-- `02 /r`: ADD r8,r/m8 -/
def execAddR8Rm8 (r : Reg8) (rm : Rm Reg8) (s : State) : Result :=
  .next (alu8 .add (.reg r) (s.readRm8 rm) s)

/-- `03 /r`: ADD r16,r/m16 -/
def execAddR16Rm16 (r : Reg16) (rm : Rm Reg16) (s : State) : Result :=
  .next (alu16 .add (.reg r) (s.readRm16 rm) s)

/-- `04 ib`: ADD AL,ib -/
def execAddAlIb (ib : Byte) (s : State) : Result :=
  .next (alu8 .add (.reg .al) ib s)

/-- `05 iw`: ADD AX,iw -/
def execAddAxIw (iw : Word) (s : State) : Result :=
  .next (alu16 .add (.reg .ax) iw s)

/-- `80 /0 ib`: ADD r/m8,ib -/
def execAddRm8Ib (rm : Rm Reg8) (ib : Byte) (s : State) : Result :=
  .next (alu8 .add rm ib s)

/-- `81 /0 iw`: ADD r/m16,iw -/
def execAddRm16Iw (rm : Rm Reg16) (iw : Word) (s : State) : Result :=
  .next (alu16 .add rm iw s)

/-- `82 /0 ib`: the same instruction as `80 /0 ib` under the second opcode (its own row of the table) -/
def execAddRm8IbAlt (rm : Rm Reg8) (ib : Byte) (s : State) : Result :=
  .next (alu8 .add rm ib s)

/-- `83 /0 ib`: ADD r/m16,ib sign-extended to 16 bits -/
def execAddRm16Ib (rm : Rm Reg16) (ib : Byte) (s : State) : Result :=
  .next (alu16 .add rm (signExtend8 ib) s)

/-! ### ADC (R202) -/

/-- `10 /r`: ADC r/m8,r8 -/
def execAdcRm8R8 (rm : Rm Reg8) (r : Reg8) (s : State) : Result :=
  .next (alu8 .adc rm (s.r8 r) s)

/-- `11 /r`: ADC r/m16,r16 -/
def execAdcRm16R16 (rm : Rm Reg16) (r : Reg16) (s : State) : Result :=
  .next (alu16 .adc rm (s.r16 r) s)

/-- `12 /r`: ADC r8,r/m8 -/
def execAdcR8Rm8 (r : Reg8) (rm : Rm Reg8) (s : State) : Result :=
  .next (alu8 .adc (.reg r) (s.readRm8 rm) s)

/-- `13 /r`: ADC r16,r/m16 -/
def execAdcR16Rm16 (r : Reg16) (rm : Rm Reg16) (s : State) : Result :=
  .next (alu16 .adc (.reg r) (s.readRm16 rm) s)

/-- `14 ib`: ADC AL,ib -/
def execAdcAlIb (ib : Byte) (s : State) : Result :=
  .next (alu8 .adc (.reg .al) ib s)

/-- `15 iw`: ADC AX,iw -/
def execAdcAxIw (iw : Word) (s : State) : Result :=
  .next (alu16 .adc (.reg .ax) iw s)

/-- `80 /2 ib`: ADC r/m8,ib -/
def execAdcRm8Ib (rm : Rm Reg8) (ib : Byte) (s : State) : Result :=
  .next (alu8 .adc rm ib s)

/-- `81 /2 iw`: ADC r/m16,iw -/
def execAdcRm16Iw (rm : Rm Reg16) (iw : Word) (s : State) : Result :=
  .next (alu16 .adc rm iw s)

/-- `82 /2 ib`: the same instruction as `80 /2 ib` under the second opcode (its own row of the table) -/
def execAdcRm8IbAlt (rm : Rm Reg8) (ib : Byte) (s : State) : Result :=
  .next (alu8 .adc rm ib s)

/-- `83 /2 ib`: ADC r/m16,ib sign-extended to 16 bits -/
def execAdcRm16Ib (rm : Rm Reg16) (ib : Byte) (s : State) : Result :=
  .next (alu16 .adc rm (signExtend8 ib) s)

/-! ### SUB (R203) -/

/-- `28 /r`: SUB r/m8,r8 -/
def execSubRm8R8 (rm : Rm Reg8) (r : Reg8) (s : State) : Result :=
  .next (alu8 .sub rm (s.r8 r) s)

/-- `29 /r`: SUB r/m16,r16 -/
def execSubRm16R16 (rm : Rm Reg16) (r : Reg16) (s : State) : Result :=
  .next (alu16 .sub rm (s.r16 r) s)

/-- `2A /r`: SUB r8,r/m8 -/
def execSubR8Rm8 (r : Reg8) (rm : Rm Reg8) (s : State) : Result :=
  .next (alu8 .sub (.reg r) (s.readRm8 rm) s)

/-- `2B /r`: SUB r16,r/m16 -/
def execSubR16Rm16 (r : Reg16) (rm : Rm Reg16) (s : State) : Result :=
  .next (alu16 .sub (.reg r) (s.readRm16 rm) s)

/-- `2C ib`: SUB AL,ib -/
def execSubAlIb (ib : Byte) (s : State) : Result :=
  .next (alu8 .sub (.reg .al) ib s)

/-- `2D iw`: SUB AX,iw -/
def execSubAxIw (iw : Word) (s : State) : Result :=
  .next (alu16 .sub (.reg .ax) iw s)

/-- `80 /5 ib`: SUB r/m8,ib -/
def execSubRm8Ib (rm : Rm Reg8) (ib : Byte) (s : State) : Result :=
  .next (alu8 .sub rm ib s)

/-- `81 /5 iw`: SUB r/m16,iw -/
def execSubRm16Iw (rm : Rm Reg16) (iw : Word) (s : State) : Result :=
  .next (alu16 .sub rm iw s)

/-- `82 /5 ib`: the same instruction as `80 /5 ib` under the second opcode (its own row of the table) -/
def execSubRm8IbAlt (rm : Rm Reg8) (ib : Byte) (s : State) : Result :=
  .next (alu8 .sub rm ib s)

/-- `83 /5 ib`: SUB r/m16,ib sign-extended to 16 bits -/
def execSubRm16Ib (rm : Rm Reg16) (ib : Byte) (s : State) : Result :=
  .next (alu16 .sub rm (signExtend8 ib) s)

/-! ### SBB (R204) -/

/-- `18 /r`: SBB r/m8,r8 -/
def execSbbRm8R8 (rm : Rm Reg8) (r : Reg8) (s : State) : Result :=
  .next (alu8 .sbb rm (s.r8 r) s)

/-- `19 /r`: SBB r/m16,r16 -/
def execSbbRm16R16 (rm : Rm Reg16) (r : Reg16) (s : State) : Result :=
  .next (alu16 .sbb rm (s.r16 r) s)

/-- `1A /r`: SBB r8,r/m8 -/
def execSbbR8Rm8 (r : Reg8) (rm : Rm Reg8) (s : State) : Result :=
  .next (alu8 .sbb (.reg r) (s.readRm8 rm) s)

/-- `1B /r`: SBB r16,r/m16 -/
def execSbbR16Rm16 (r : Reg16) (rm : Rm Reg16) (s : State) : Result :=
  .next (alu16 .sbb (.reg r) (s.readRm16 rm) s)

/-- `1C ib`: SBB AL,ib -/
def execSbbAlIb (ib : Byte) (s : State) : Result :=
  .next (alu8 .sbb (.reg .al) ib s)

/-- `1D iw`: SBB AX,iw -/
def execSbbAxIw (iw : Word) (s : State) : Result :=
  .next (alu16 .sbb (.reg .ax) iw s)

/-- `80 /3 ib`: SBB r/m8,ib -/
def execSbbRm8Ib (rm : Rm Reg8) (ib : Byte) (s : State) : Result :=
  .next (alu8 .sbb rm ib s)

/-- `81 /3 iw`: SBB r/m16,iw -/
def execSbbRm16Iw (rm : Rm Reg16) (iw : Word) (s : State) : Result :=
  .next (alu16 .sbb rm iw s)

/-- `82 /3 ib`: the same instruction as `80 /3 ib` under the second opcode (its own row of the table) -/
def execSbbRm8IbAlt (rm : Rm Reg8) (ib : Byte) (s : State) : Result :=
  .next (alu8 .sbb rm ib s)

/-- `83 /3 ib`: SBB r/m16,ib sign-extended to 16 bits -/
def execSbbRm16Ib (rm : Rm Reg16) (ib : Byte) (s : State) : Result :=
  .next (alu16 .sbb rm (signExtend8 ib) s)

/-! ### CMP (R205) -/

/-- `38 /r`: CMP r/m8,r8 -/
def execCmpRm8R8 (rm : Rm Reg8) (r : Reg8) (s : State) : Result :=
  .next (alu8 .cmp rm (s.r8 r) s)

/-- `39 /r`: CMP r/m16,r16 -/
def execCmpRm16R16 (rm : Rm Reg16) (r : Reg16) (s : State) : Result :=
  .next (alu16 .cmp rm (s.r16 r) s)

/-- `3A /r`: CMP r8,r/m8 -/
def execCmpR8Rm8 (r : Reg8) (rm : Rm Reg8) (s : State) : Result :=
  .next (alu8 .cmp (.reg r) (s.readRm8 rm) s)

/-- `3B /r`: CMP r16,r/m16 -/
def execCmpR16Rm16 (r : Reg16) (rm : Rm Reg16) (s : State) : Result :=
  .next (alu16 .cmp (.reg r) (s.readRm16 rm) s)

/-- `3C ib`: CMP AL,ib -/
def execCmpAlIb (ib : Byte) (s : State) : Result :=
  .next (alu8 .cmp (.reg .al) ib s)

/-- `3D iw`: CMP AX,iw -/
def execCmpAxIw (iw : Word) (s : State) : Result :=
  .next (alu16 .cmp (.reg .ax) iw s)

/-- `80 /7 ib`: CMP r/m8,ib -/
def execCmpRm8Ib (rm : Rm Reg8) (ib : Byte) (s : State) : Result :=
  .next (alu8 .cmp rm ib s)

/-- `81 /7 iw`: CMP r/m16,iw -/
def execCmpRm16Iw (rm : Rm Reg16) (iw : Word) (s : State) : Result :=
  .next (alu16 .cmp rm iw s)

/-- `82 /7 ib`: the same instruction as `80 /7 ib` under the second opcode (its own row of the table) -/
def execCmpRm8IbAlt (rm : Rm Reg8) (ib : Byte) (s : State) : Result :=
  .next (alu8 .cmp rm ib s)

/-- `83 /7 ib`: CMP r/m16,ib sign-extended to 16 bits -/
def execCmpRm16Ib (rm : Rm Reg16) (ib : Byte) (s : State) : Result :=
  .next (alu16 .cmp rm (signExtend8 ib) s)

/-! ### INC, DEC, NEG -/

/-- INC on a byte operand (R206). -/
def inc8 (rm : Rm Reg8) (s : State) : State :=
  let rf := incFlags (s.readRm8 rm) s.flags
  (s.setFlags rf.2).writeRm8 rm rf.1

/-- INC on a word operand (R206). -/
def inc16 (rm : Rm Reg16) (s : State) : State :=
  let rf := incFlags (s.readRm16 rm) s.flags
  (s.setFlags rf.2).writeRm16 rm rf.1

/-- DEC on a byte operand (R207). -/
def dec8 (rm : Rm Reg8) (s : State) : State :=
  let rf := decFlags (s.readRm8 rm) s.flags
  (s.setFlags rf.2).writeRm8 rm rf.1

/-- DEC on a word operand (R207). -/
def dec16 (rm : Rm Reg16) (s : State) : State :=
  let rf := decFlags (s.readRm16 rm) s.flags
  (s.setFlags rf.2).writeRm16 rm rf.1

/-- `40+r`: INC r16 -/
def execIncR16 (r : Reg16) (s : State) : Result :=
  .next (inc16 (.reg r) s)

/-- `FE /0`: INC r/m8 -/
def execIncRm8 (rm : Rm Reg8) (s : State) : Result :=
  .next (inc8 rm s)

/-- `FF /0`: INC r/m16 -/
def execIncRm16 (rm : Rm Reg16) (s : State) : Result :=
  .next (inc16 rm s)

/-- `48+r`: DEC r16 -/
def execDecR16 (r : Reg16) (s : State) : Result :=
  .next (dec16 (.reg r) s)

/-- `FE /1`: DEC r/m8 -/
def execDecRm8 (rm : Rm Reg8) (s : State) : Result :=
  .next (dec8 rm s)

/-- `FF /1`: DEC r/m16 -/
def execDecRm16 (rm : Rm Reg16) (s : State) : Result :=
  .next (dec16 rm s)

/-- NEG on a byte operand: the subtraction `0 - a` (R208). -/
def neg8 (rm : Rm Reg8) (s : State) : State :=
  let rf := subFlags 0 (s.readRm8 rm) false s.flags
  (s.setFlags rf.2).writeRm8 rm rf.1

/-- NEG on a word operand (R208). -/
def neg16 (rm : Rm Reg16) (s : State) : State :=
  let rf := subFlags 0 (s.readRm16 rm) false s.flags
  (s.setFlags rf.2).writeRm16 rm rf.1

/-- `F6 /3`: NEG r/m8 -/
def execNegRm8 (rm : Rm Reg8) (s : State) : Result :=
  .next (neg8 rm s)

/-- `F7 /3`: NEG r/m16 -/
def execNegRm16 (rm : Rm Reg16) (s : State) : Result :=
  .next (neg16 rm s)

/-! ### MUL and IMUL -/

/-- Write a 32-bit value to DX:AX, the high half to DX (R209). -/
def State.setDxAx (s : State) (p : BitVec 32) : State :=
  (s.setR16 .dx (p.extractLsb' 16 16)).setR16 .ax (p.extractLsb' 0 16)

/-- DX:AX as one 32-bit value (R209, R211). -/
def State.dxAx (s : State) : BitVec 32 := s.r16 .dx ++ s.r16 .ax

/-- MUL on bytes: AX is the exact product of AL and the operand (R209). -/
def mul8 (b : Byte) (s : State) : State :=
  let p : Word := (s.r8 .al).setWidth 16 * b.setWidth 16
  ((s.setFlags (mulFlags (decide (highByte p ≠ 0)) s.free s.flags)).drew 4).setR16 .ax p

/-- MUL on words: DX:AX is the exact product of AX and the operand (R209). -/
def mul16 (b : Word) (s : State) : State :=
  let p : BitVec 32 := (s.r16 .ax).setWidth 32 * b.setWidth 32
  ((s.setFlags (mulFlags (decide (p.extractLsb' 16 16 ≠ 0)) s.free s.flags)).drew 4).setDxAx p

/-- IMUL on bytes: CF = OF = 0 iff the product is the sign extension of its low half (R210). -/
def imul8 (b : Byte) (s : State) : State :=
  let p : Word := (s.r8 .al).signExtend 16 * b.signExtend 16
  ((s.setFlags (mulFlags (decide (p ≠ (lowByte p).signExtend 16)) s.free s.flags)).drew 4).setR16 .ax p

/-- IMUL on words (R210). -/
def imul16 (b : Word) (s : State) : State :=
  let p : BitVec 32 := (s.r16 .ax).signExtend 32 * b.signExtend 32
  ((s.setFlags (mulFlags (decide (p ≠ (p.extractLsb' 0 16).signExtend 32)) s.free s.flags)).drew 4).setDxAx p

/-- `F6 /4`: MUL r/m8 -/
def execMulRm8 (rm : Rm Reg8) (s : State) : Result :=
  .next (mul8 (s.readRm8 rm) s)

/-- `F7 /4`: MUL r/m16 -/
def execMulRm16 (rm : Rm Reg16) (s : State) : Result :=
  .next (mul16 (s.readRm16 rm) s)

/-- `F6 /5`: IMUL r/m8 -/
def execImulRm8 (rm : Rm Reg8) (s : State) : Result :=
  .next (imul8 (s.readRm8 rm) s)

/-- `F7 /5`: IMUL r/m16 -/
def execImulRm16 (rm : Rm Reg16) (s : State) : Result :=
  .next (imul16 (s.readRm16 rm) s)

/-! ### DIV and IDIV -/

/-- The flags of a division that completes: all six free (R211, R212). -/
def State.divided (s : State) : State := (s.setFlags (divFlags s.free s.flags)).drew 6

/-- DIV on bytes: AX by the operand; a zero divisor, or a quotient above 255, raises DivideError with nothing
written (R211, spec/60_exceptions.md R382). -/
def div8 (d : Byte) (s : State) : State :=
  let n := (s.r16 .ax).toNat
  if d.toNat = 0 then s.raise .divideError
  else if n / d.toNat > 2 ^ 8 - 1 then s.raise .divideError
  else (s.divided.setR8 .al (BitVec.ofNat 8 (n / d.toNat))).setR8 .ah (BitVec.ofNat 8 (n % d.toNat))

/-- DIV on words: DX:AX by the operand (R211). -/
def div16 (d : Word) (s : State) : State :=
  let n := s.dxAx.toNat
  if d.toNat = 0 then s.raise .divideError
  else if n / d.toNat > 2 ^ 16 - 1 then s.raise .divideError
  else (s.divided.setR16 .ax (BitVec.ofNat 16 (n / d.toNat))).setR16 .dx (BitVec.ofNat 16 (n % d.toNat))

/-- IDIV on bytes: truncation toward zero, the remainder takes the sign of the dividend; a quotient outside
-127..127 raises DivideError (R212, spec/92_eei_decisions.md D21). -/
def idiv8 (b : Byte) (s : State) : State :=
  let d := b.toInt
  let n := (s.r16 .ax).toInt
  if d = 0 then s.raise .divideError
  else if n.tdiv d > 2 ^ 7 - 1 ∨ n.tdiv d < -(2 ^ 7 - 1) then s.raise .divideError
  else (s.divided.setR8 .al (BitVec.ofInt 8 (n.tdiv d))).setR8 .ah (BitVec.ofInt 8 (n.tmod d))

/-- IDIV on words: a quotient outside -32767..32767 raises DivideError (R212, D21). -/
def idiv16 (b : Word) (s : State) : State :=
  let d := b.toInt
  let n := s.dxAx.toInt
  if d = 0 then s.raise .divideError
  else if n.tdiv d > 2 ^ 15 - 1 ∨ n.tdiv d < -(2 ^ 15 - 1) then s.raise .divideError
  else (s.divided.setR16 .ax (BitVec.ofInt 16 (n.tdiv d))).setR16 .dx (BitVec.ofInt 16 (n.tmod d))

/-- `F6 /6`: DIV r/m8 -/
def execDivRm8 (rm : Rm Reg8) (s : State) : Result :=
  .next (div8 (s.readRm8 rm) s)

/-- `F7 /6`: DIV r/m16 -/
def execDivRm16 (rm : Rm Reg16) (s : State) : Result :=
  .next (div16 (s.readRm16 rm) s)

/-- `F6 /7`: IDIV r/m8 -/
def execIdivRm8 (rm : Rm Reg8) (s : State) : Result :=
  .next (idiv8 (s.readRm8 rm) s)

/-- `F7 /7`: IDIV r/m16 -/
def execIdivRm16 (rm : Rm Reg16) (s : State) : Result :=
  .next (idiv16 (s.readRm16 rm) s)

end Sys2Proof.Machine
end

