-- ==== Sys2Proof/Machine/ControlFlow.lean ====
section
/-! DEFINITION. The control-flow instructions (spec/44_control_flow.md). None changes a flag. In every meaning IP already
holds the offset of the next instruction, from which displacements count (R290) and which calls push. -/

namespace Sys2Proof.Machine

/-! ### Conditional jumps -/

/-- `Cond(cc)` of R291. -/
def Flags.cond (f : Flags) (cc : BitVec 4) : Bool :=
  match cc.toNat with
  | 0x0 => f.OF
  | 0x1 => !f.OF
  | 0x2 => f.CF
  | 0x3 => !f.CF
  | 0x4 => f.ZF
  | 0x5 => !f.ZF
  | 0x6 => f.CF || f.ZF
  | 0x7 => !f.CF && !f.ZF
  | 0x8 => f.SF
  | 0x9 => !f.SF
  | 0xA => f.PF
  | 0xB => !f.PF
  | 0xC => f.SF != f.OF
  | 0xD => f.SF == f.OF
  | 0xE => f.ZF || (f.SF != f.OF)
  | _ => !f.ZF && (f.SF == f.OF)

/-- Jcc (R291). -/
def jcc (cc : BitVec 4) (cb : Byte) (s : State) : State := s.jumpRelative (s.flags.cond cc) (signExtend8 cb)

/-- `70 cb`: JO (R292). -/
def execJo (cb : Byte) (s : State) : Result :=
  .next (jcc 0x0 cb s)

/-- `71 cb`: JNO (R293). -/
def execJno (cb : Byte) (s : State) : Result :=
  .next (jcc 0x1 cb s)

/-- `72 cb`: JB/JNAE/JC (R294). -/
def execJb (cb : Byte) (s : State) : Result :=
  .next (jcc 0x2 cb s)

/-- `73 cb`: JNB/JAE/JNC (R295). -/
def execJnb (cb : Byte) (s : State) : Result :=
  .next (jcc 0x3 cb s)

/-- `74 cb`: JE/JZ (R296). -/
def execJe (cb : Byte) (s : State) : Result :=
  .next (jcc 0x4 cb s)

/-- `75 cb`: JNE/JNZ (R297). -/
def execJne (cb : Byte) (s : State) : Result :=
  .next (jcc 0x5 cb s)

/-- `76 cb`: JBE/JNA (R298). -/
def execJbe (cb : Byte) (s : State) : Result :=
  .next (jcc 0x6 cb s)

/-- `77 cb`: JNBE/JA (R299). -/
def execJnbe (cb : Byte) (s : State) : Result :=
  .next (jcc 0x7 cb s)

/-- `78 cb`: JS (R300). -/
def execJs (cb : Byte) (s : State) : Result :=
  .next (jcc 0x8 cb s)

/-- `79 cb`: JNS (R301). -/
def execJns (cb : Byte) (s : State) : Result :=
  .next (jcc 0x9 cb s)

/-- `7A cb`: JP/JPE (R302). -/
def execJp (cb : Byte) (s : State) : Result :=
  .next (jcc 0xA cb s)

/-- `7B cb`: JNP/JPO (R303). -/
def execJnp (cb : Byte) (s : State) : Result :=
  .next (jcc 0xB cb s)

/-- `7C cb`: JL/JNGE (R304). -/
def execJl (cb : Byte) (s : State) : Result :=
  .next (jcc 0xC cb s)

/-- `7D cb`: JNL/JGE (R305). -/
def execJnl (cb : Byte) (s : State) : Result :=
  .next (jcc 0xD cb s)

/-- `7E cb`: JLE/JNG (R306). -/
def execJle (cb : Byte) (s : State) : Result :=
  .next (jcc 0xE cb s)

/-- `7F cb`: JNLE/JG (R307). -/
def execJnle (cb : Byte) (s : State) : Result :=
  .next (jcc 0xF cb s)

/-! ### Unconditional jumps -/

/-- `EB cb`: JMP short (R308). -/
def execJmpShort (cb : Byte) (s : State) : Result :=
  .next (s.jumpRelative true (signExtend8 cb))

/-- `E9 cw`: JMP near (R309). -/
def execJmpNear (cw : Word) (s : State) : Result :=
  .next (s.jumpRelative true cw)

/-- `EA ow sw`: JMP far (R310). -/
def execJmpFar (off : Word) (seg : Word) (s : State) : Result :=
  .next (s.jumpFar seg off)

/-- `FF /4`: JMP r/m16 (R311). -/
def execJmpRm16 (rm : Rm Reg16) (s : State) : Result :=
  .next (s.setIp (s.readRm16 rm))

/-- `FF /5`, memory operand only: JMP m16:16 (R312). -/
def execJmpM1616 (m : MemOp) (s : State) : Result :=
  .next (s.jumpFar (s.farSegment m) (s.farOffset m))

/-! ### Calls and returns -/

/-- `E8 cw`: CALL near (R313). -/
def execCallNear (cw : Word) (s : State) : Result :=
  .next ((s.push16 s.ip).setIp (s.ip + cw))

/-- A far call: CS is pushed first, then IP, so the return IP lies at the lower address (R314, R316). -/
def callFarTo (seg off : Word) (s : State) : State :=
  ((s.push16 s.sregs.cs).push16 s.ip).jumpFar seg off

/-- `9A ow sw`: CALL far (R314). -/
def execCallFar (off : Word) (seg : Word) (s : State) : Result :=
  .next (callFarTo seg off s)

/-- `FF /2`: CALL r/m16: the target is read before the push (R315). -/
def execCallRm16 (rm : Rm Reg16) (s : State) : Result :=
  .next ((s.push16 s.ip).setIp (s.readRm16 rm))

/-- `FF /3`: CALL m16:16: the pointer is read before the pushes (R316). -/
def execCallM1616 (m : MemOp) (s : State) : Result :=
  .next (callFarTo (s.farSegment m) (s.farOffset m) s)

/-- The near return: `IP <- Pop16()` (R317). -/
def retNear (s : State) : State := s.popped.setIp s.stackTop

/-- The far return: IP, then CS, are popped, then written (R319). -/
def retFar (s : State) : State := s.popped.popped.jumpFar s.popped.stackTop s.stackTop

/-- `SP <- SP + n`: the argument bytes are discarded (R318, R320). -/
def State.addSp (s : State) (n : Word) : State := s.setR16 .sp (s.regs.sp + n)

/-- `C3`: RET (R317). -/
def execRet (s : State) : Result :=
  .next (retNear s)

/-- `C2 iw`: RET iw (R318). -/
def execRetIw (iw : Word) (s : State) : Result :=
  .next ((retNear s).addSp iw)

/-- `CB`: RETF (R319). -/
def execRetf (s : State) : Result :=
  .next (retFar s)

/-- `CA iw`: RETF iw (R320). -/
def execRetfIw (iw : Word) (s : State) : Result :=
  .next ((retFar s).addSp iw)

/-! ### Loops -/

/-- `CX <- CX - 1`, no flag touched (R321). -/
def State.decCx (s : State) : State := s.setR16 .cx (s.regs.cx - 1)

/-- The LOOP instructions: decrement, then jump if CX is not 0 and the ZF condition holds (R321 to R323). -/
def loopIf (zfCondition : Bool) (cb : Byte) (s : State) : State :=
  s.decCx.jumpRelative (decide (s.regs.cx - 1 ≠ 0) && zfCondition) (signExtend8 cb)

/-- `E2 cb`: LOOP (R321). -/
def execLoop (cb : Byte) (s : State) : Result :=
  .next (loopIf true cb s)

/-- `E1 cb`: LOOPE/LOOPZ (R322). -/
def execLoope (cb : Byte) (s : State) : Result :=
  .next (loopIf s.flags.ZF cb s)

/-- `E0 cb`: LOOPNE/LOOPNZ (R323). -/
def execLoopne (cb : Byte) (s : State) : Result :=
  .next (loopIf (!s.flags.ZF) cb s)

/-- `E3 cb`: JCXZ; CX is not changed (R324). -/
def execJcxz (cb : Byte) (s : State) : Result :=
  .next (s.jumpRelative (decide (s.regs.cx = 0)) (signExtend8 cb))

end Sys2Proof.Machine
end

