-- ==== Sys2Proof/Machine/DataMovement.lean ====
section
/-! DEFINITION. The data movement instructions (spec/40_data_movement.md). None writes a flag (R150). In every
meaning IP already holds the offset of the next instruction (spec/10_state.md R27). -/

namespace Sys2Proof.Machine

/-! ### MOV -/

/-- `88 /r`: MOV r/m8,r8 (R151). -/
def execMovRm8R8 (rm : Rm Reg8) (r : Reg8) (s : State) : Result :=
  .next (s.writeRm8 rm (s.r8 r))

/-- `89 /r`: MOV r/m16,r16 (R151). -/
def execMovRm16R16 (rm : Rm Reg16) (r : Reg16) (s : State) : Result :=
  .next (s.writeRm16 rm (s.r16 r))

/-- `8A /r`: MOV r8,r/m8 (R152). -/
def execMovR8Rm8 (r : Reg8) (rm : Rm Reg8) (s : State) : Result :=
  .next (s.setR8 r (s.readRm8 rm))

/-- `8B /r`: MOV r16,r/m16 (R152). -/
def execMovR16Rm16 (r : Reg16) (rm : Rm Reg16) (s : State) : Result :=
  .next (s.setR16 r (s.readRm16 rm))

/-- `C6 /0 ib`: MOV r/m8,ib (R153). -/
def execMovRm8Ib (rm : Rm Reg8) (ib : Byte) (s : State) : Result :=
  .next (s.writeRm8 rm ib)

/-- `C7 /0 iw`: MOV r/m16,iw (R153). -/
def execMovRm16Iw (rm : Rm Reg16) (iw : Word) (s : State) : Result :=
  .next (s.writeRm16 rm iw)

/-- `B0+r ib`: MOV r8,ib (R154, R23). -/
def execMovR8Ib (r : Reg8) (ib : Byte) (s : State) : Result :=
  .next (s.setR8 r ib)

/-- `B8+r iw`: MOV r16,iw (R154). -/
def execMovR16Iw (r : Reg16) (iw : Word) (s : State) : Result :=
  .next (s.setR16 r iw)

/-- `A0 moffs`: MOV AL,moffs8 (R155). -/
def execMovAlMoffs (off : Word) (s : State) : Result :=
  .next (s.setR8 .al (s.load8 (s.dataSeg .ds) off))

/-- `A1 moffs`: MOV AX,moffs16 (R155). -/
def execMovAxMoffs (off : Word) (s : State) : Result :=
  .next (s.setR16 .ax (s.load16 (s.dataSeg .ds) off))

/-- `A2 moffs`: MOV moffs8,AL (R160). -/
def execMovMoffsAl (off : Word) (s : State) : Result :=
  .next (s.store8 (s.dataSeg .ds) off (s.r8 .al))

/-- `A3 moffs`: MOV moffs16,AX (R160). -/
def execMovMoffsAx (off : Word) (s : State) : Result :=
  .next (s.store16 (s.dataSeg .ds) off (s.r16 .ax))

/-- `8E /r`: MOV Sreg,r/m16 (R156). CS may be the destination: the next fetch uses it (spec/92_eei_decisions.md D18). -/
def execMovSregRm16 (sr : Sreg) (rm : Rm Reg16) (s : State) : Result :=
  .next (s.setSr sr (s.readRm16 rm))

/-- `8C /r`: MOV r/m16,Sreg (R157). -/
def execMovRm16Sreg (rm : Rm Reg16) (sr : Sreg) (s : State) : Result :=
  .next (s.writeRm16 rm (s.sr sr))

/-! ### XCHG, LEA -/

/-- `86 /r`: XCHG r/m8,r8 (R158): both are read, then r/m is written, then the register. -/
def execXchgRm8R8 (rm : Rm Reg8) (r : Reg8) (s : State) : Result :=
  .next ((s.writeRm8 rm (s.r8 r)).setR8 r (s.readRm8 rm))

/-- `87 /r`: XCHG r/m16,r16 (R158). -/
def execXchgRm16R16 (rm : Rm Reg16) (r : Reg16) (s : State) : Result :=
  .next ((s.writeRm16 rm (s.r16 r)).setR16 r (s.readRm16 rm))

/-- `90+r`: XCHG AX,r16; `90` changes nothing but IP and is NOP (R159). -/
def execXchgAxR16 (r : Reg16) (s : State) : Result :=
  .next ((s.setR16 .ax (s.r16 r)).setR16 r (s.r16 .ax))

/-- `8D /r`: LEA r16,m: the offset before segment base addition; no memory is accessed (R161). -/
def execLeaR16M (r : Reg16) (m : MemOp) (s : State) : Result :=
  .next (s.setR16 r (s.ea m))

/-! ### PUSH and POP -/

/-- `50+r`: PUSH r16: the register is read before SP changes, so PUSH SP stores the old SP (R162, R168). -/
def execPushR16 (r : Reg16) (s : State) : Result :=
  .next (s.push16 (s.r16 r))

/-- `FF /6`: PUSH r/m16 (R163, R168). -/
def execPushRm16 (rm : Rm Reg16) (s : State) : Result :=
  .next (s.push16 (s.readRm16 rm))

/-- `06`: PUSH ES (R164). -/
def execPushEs (s : State) : Result :=
  .next (s.push16 (s.sr .es))

/-- `0E`: PUSH CS (R164). -/
def execPushCs (s : State) : Result :=
  .next (s.push16 (s.sr .cs))

/-- `16`: PUSH SS (R164). -/
def execPushSs (s : State) : Result :=
  .next (s.push16 (s.sr .ss))

/-- `1E`: PUSH DS (R164). -/
def execPushDs (s : State) : Result :=
  .next (s.push16 (s.sr .ds))

/-- `58+r`: POP r16: SP is incremented, then the register is written, so POP SP leaves the word popped (R165, R168). -/
def execPopR16 (r : Reg16) (s : State) : Result :=
  .next (s.popped.setR16 r s.stackTop)

/-- `07`: POP ES (R166). -/
def execPopEs (s : State) : Result :=
  .next (s.popped.setSr .es s.stackTop)

/-- `17`: POP SS: the word is read through the old SS (R166). -/
def execPopSs (s : State) : Result :=
  .next (s.popped.setSr .ss s.stackTop)

/-- `1F`: POP DS (R166). -/
def execPopDs (s : State) : Result :=
  .next (s.popped.setSr .ds s.stackTop)

/-- `8F /0`: POP r/m16 (R167, R168). No addressing mode uses SP, so the effective address is that of decode time. -/
def execPopRm16 (rm : Rm Reg16) (s : State) : Result :=
  .next (s.popped.writeRm16 rm s.stackTop)

/-! ### Segment loads -/

/-- `C5 /r`: LDS r16,m16:16: both words are read before either register is written (R169). -/
def execLdsR16M (r : Reg16) (m : MemOp) (s : State) : Result :=
  .next ((s.setR16 r (s.farOffset m)).setSr .ds (s.farSegment m))

/-- `C4 /r`: LES r16,m16:16 (R170). -/
def execLesR16M (r : Reg16) (m : MemOp) (s : State) : Result :=
  .next ((s.setR16 r (s.farOffset m)).setSr .es (s.farSegment m))

end Sys2Proof.Machine
end

