-- ==== Sys2Proof/Machine/FlagManipulation.lean ====
section
/-! DEFINITION. The flag manipulation instructions (spec/45_flag_manipulation.md): each writes one bit of FLAGS and
nothing else. -/

namespace Sys2Proof.Machine

/-- `F8`: CLC (R330). -/
def execClc (s : State) : Result :=
  .next (s.setFlags { s.flags with CF := false })

/-- `F9`: STC (R331). -/
def execStc (s : State) : Result :=
  .next (s.setFlags { s.flags with CF := true })

/-- `FA`: CLI (R332). -/
def execCli (s : State) : Result :=
  .next (s.setFlags { s.flags with IF := false })

/-- `FB`: STI (R333). -/
def execSti (s : State) : Result :=
  .next (s.setFlags { s.flags with IF := true })

/-- `FC`: CLD (R334). -/
def execCld (s : State) : Result :=
  .next (s.setFlags { s.flags with DF := false })

/-- `FD`: STD (R335). -/
def execStd (s : State) : Result :=
  .next (s.setFlags { s.flags with DF := true })

/-- `F5`: CMC (R336). -/
def execCmc (s : State) : Result :=
  .next (s.setFlags { s.flags with CF := !s.flags.CF })

end Sys2Proof.Machine
end

