-- ==== Sys2Proof/Machine/Logic.lean ====
section
/-! DEFINITION. The logic instructions (spec/42_logic.md): the ten forms of R200 for AND, OR and XOR, NOT, and TEST. -/

namespace Sys2Proof.Machine

/-! ### AND (R250) -/

/-- `20 /r`: AND r/m8,r8 -/
def execAndRm8R8 (rm : Rm Reg8) (r : Reg8) (s : State) : Result :=
  .next (alu8 .and rm (s.r8 r) s)

/-- `21 /r`: AND r/m16,r16 -/
def execAndRm16R16 (rm : Rm Reg16) (r : Reg16) (s : State) : Result :=
  .next (alu16 .and rm (s.r16 r) s)

/-- `22 /r`: AND r8,r/m8 -/
def execAndR8Rm8 (r : Reg8) (rm : Rm Reg8) (s : State) : Result :=
  .next (alu8 .and (.reg r) (s.readRm8 rm) s)

/-- `23 /r`: AND r16,r/m16 -/
def execAndR16Rm16 (r : Reg16) (rm : Rm Reg16) (s : State) : Result :=
  .next (alu16 .and (.reg r) (s.readRm16 rm) s)

/-- `24 ib`: AND AL,ib -/
def execAndAlIb (ib : Byte) (s : State) : Result :=
  .next (alu8 .and (.reg .al) ib s)

/-- `25 iw`: AND AX,iw -/
def execAndAxIw (iw : Word) (s : State) : Result :=
  .next (alu16 .and (.reg .ax) iw s)

/-- `80 /4 ib`: AND r/m8,ib -/
def execAndRm8Ib (rm : Rm Reg8) (ib : Byte) (s : State) : Result :=
  .next (alu8 .and rm ib s)

/-- `81 /4 iw`: AND r/m16,iw -/
def execAndRm16Iw (rm : Rm Reg16) (iw : Word) (s : State) : Result :=
  .next (alu16 .and rm iw s)

/-- `82 /4 ib`: the same instruction as `80 /4 ib` under the second opcode (its own row of the table) -/
def execAndRm8IbAlt (rm : Rm Reg8) (ib : Byte) (s : State) : Result :=
  .next (alu8 .and rm ib s)

/-- `83 /4 ib`: AND r/m16,ib sign-extended to 16 bits -/
def execAndRm16Ib (rm : Rm Reg16) (ib : Byte) (s : State) : Result :=
  .next (alu16 .and rm (signExtend8 ib) s)

/-! ### OR (R251) -/

/-- `08 /r`: OR r/m8,r8 -/
def execOrRm8R8 (rm : Rm Reg8) (r : Reg8) (s : State) : Result :=
  .next (alu8 .or rm (s.r8 r) s)

/-- `09 /r`: OR r/m16,r16 -/
def execOrRm16R16 (rm : Rm Reg16) (r : Reg16) (s : State) : Result :=
  .next (alu16 .or rm (s.r16 r) s)

/-- `0A /r`: OR r8,r/m8 -/
def execOrR8Rm8 (r : Reg8) (rm : Rm Reg8) (s : State) : Result :=
  .next (alu8 .or (.reg r) (s.readRm8 rm) s)

/-- `0B /r`: OR r16,r/m16 -/
def execOrR16Rm16 (r : Reg16) (rm : Rm Reg16) (s : State) : Result :=
  .next (alu16 .or (.reg r) (s.readRm16 rm) s)

/-- `0C ib`: OR AL,ib -/
def execOrAlIb (ib : Byte) (s : State) : Result :=
  .next (alu8 .or (.reg .al) ib s)

/-- `0D iw`: OR AX,iw -/
def execOrAxIw (iw : Word) (s : State) : Result :=
  .next (alu16 .or (.reg .ax) iw s)

/-- `80 /1 ib`: OR r/m8,ib -/
def execOrRm8Ib (rm : Rm Reg8) (ib : Byte) (s : State) : Result :=
  .next (alu8 .or rm ib s)

/-- `81 /1 iw`: OR r/m16,iw -/
def execOrRm16Iw (rm : Rm Reg16) (iw : Word) (s : State) : Result :=
  .next (alu16 .or rm iw s)

/-- `82 /1 ib`: the same instruction as `80 /1 ib` under the second opcode (its own row of the table) -/
def execOrRm8IbAlt (rm : Rm Reg8) (ib : Byte) (s : State) : Result :=
  .next (alu8 .or rm ib s)

/-- `83 /1 ib`: OR r/m16,ib sign-extended to 16 bits -/
def execOrRm16Ib (rm : Rm Reg16) (ib : Byte) (s : State) : Result :=
  .next (alu16 .or rm (signExtend8 ib) s)

/-! ### XOR (R252) -/

/-- `30 /r`: XOR r/m8,r8 -/
def execXorRm8R8 (rm : Rm Reg8) (r : Reg8) (s : State) : Result :=
  .next (alu8 .xor rm (s.r8 r) s)

/-- `31 /r`: XOR r/m16,r16 -/
def execXorRm16R16 (rm : Rm Reg16) (r : Reg16) (s : State) : Result :=
  .next (alu16 .xor rm (s.r16 r) s)

/-- `32 /r`: XOR r8,r/m8 -/
def execXorR8Rm8 (r : Reg8) (rm : Rm Reg8) (s : State) : Result :=
  .next (alu8 .xor (.reg r) (s.readRm8 rm) s)

/-- `33 /r`: XOR r16,r/m16 -/
def execXorR16Rm16 (r : Reg16) (rm : Rm Reg16) (s : State) : Result :=
  .next (alu16 .xor (.reg r) (s.readRm16 rm) s)

/-- `34 ib`: XOR AL,ib -/
def execXorAlIb (ib : Byte) (s : State) : Result :=
  .next (alu8 .xor (.reg .al) ib s)

/-- `35 iw`: XOR AX,iw -/
def execXorAxIw (iw : Word) (s : State) : Result :=
  .next (alu16 .xor (.reg .ax) iw s)

/-- `80 /6 ib`: XOR r/m8,ib -/
def execXorRm8Ib (rm : Rm Reg8) (ib : Byte) (s : State) : Result :=
  .next (alu8 .xor rm ib s)

/-- `81 /6 iw`: XOR r/m16,iw -/
def execXorRm16Iw (rm : Rm Reg16) (iw : Word) (s : State) : Result :=
  .next (alu16 .xor rm iw s)

/-- `82 /6 ib`: the same instruction as `80 /6 ib` under the second opcode (its own row of the table) -/
def execXorRm8IbAlt (rm : Rm Reg8) (ib : Byte) (s : State) : Result :=
  .next (alu8 .xor rm ib s)

/-- `83 /6 ib`: XOR r/m16,ib sign-extended to 16 bits -/
def execXorRm16Ib (rm : Rm Reg16) (ib : Byte) (s : State) : Result :=
  .next (alu16 .xor rm (signExtend8 ib) s)

/-! ### NOT and TEST -/

/-- `F6 /2`: NOT r/m8: every bit inverted, no flag changed (R253). -/
def execNotRm8 (rm : Rm Reg8) (s : State) : Result :=
  .next (s.writeRm8 rm (~~~(s.readRm8 rm)))

/-- `F7 /2`: NOT r/m16 (R253). -/
def execNotRm16 (rm : Rm Reg16) (s : State) : Result :=
  .next (s.writeRm16 rm (~~~(s.readRm16 rm)))

/-- `84 /r`: TEST r/m8,r8 (R254). -/
def execTestRm8R8 (rm : Rm Reg8) (r : Reg8) (s : State) : Result :=
  .next (test8 (s.readRm8 rm) (s.r8 r) s)

/-- `85 /r`: TEST r/m16,r16 (R254). -/
def execTestRm16R16 (rm : Rm Reg16) (r : Reg16) (s : State) : Result :=
  .next (test16 (s.readRm16 rm) (s.r16 r) s)

/-- `A8 ib`: TEST AL,ib (R254). -/
def execTestAlIb (ib : Byte) (s : State) : Result :=
  .next (test8 (s.r8 .al) ib s)

/-- `A9 iw`: TEST AX,iw (R254). -/
def execTestAxIw (iw : Word) (s : State) : Result :=
  .next (test16 (s.r16 .ax) iw s)

/-- `F6 /0 ib`: TEST r/m8,ib (R254). -/
def execTestRm8Ib (rm : Rm Reg8) (ib : Byte) (s : State) : Result :=
  .next (test8 (s.readRm8 rm) ib s)

/-- `F7 /0 iw`: TEST r/m16,iw (R254). -/
def execTestRm16Iw (rm : Rm Reg16) (iw : Word) (s : State) : Result :=
  .next (test16 (s.readRm16 rm) iw s)

end Sys2Proof.Machine
end

