-- ==== Sys2Proof/Machine/PortIo.lean ====
section
/-! DEFINITION. The port input and output instructions (spec/47_io.md). None changes a flag or raises a fault. -/

namespace Sys2Proof.Machine

/-- `E4 ib`: IN AL,ib: AL is written after the callback returns (R360, R364). -/
def execInAlIb (ib : Byte) (s : State) : Result :=
  .next ((s.portRead8 (zeroExtend8 ib)).setR8 .al (s.portByte (zeroExtend8 ib)))

/-- `E5 ib`: IN AX,ib (R360). -/
def execInAxIb (ib : Byte) (s : State) : Result :=
  .next ((s.portRead16 (zeroExtend8 ib)).setR16 .ax (s.portWord (zeroExtend8 ib)))

/-- `EC`: IN AL,DX (R361). -/
def execInAlDx (s : State) : Result :=
  .next ((s.portRead8 s.regs.dx).setR8 .al (s.portByte s.regs.dx))

/-- `ED`: IN AX,DX (R361). -/
def execInAxDx (s : State) : Result :=
  .next ((s.portRead16 s.regs.dx).setR16 .ax (s.portWord s.regs.dx))

/-- `E6 ib`: OUT ib,AL (R362). -/
def execOutIbAl (ib : Byte) (s : State) : Result :=
  .next (s.portWrite8 (zeroExtend8 ib) (s.r8 .al))

/-- `E7 ib`: OUT ib,AX (R362). -/
def execOutIbAx (ib : Byte) (s : State) : Result :=
  .next (s.portWrite16 (zeroExtend8 ib) (s.r16 .ax))

/-- `EE`: OUT DX,AL (R363). -/
def execOutDxAl (s : State) : Result :=
  .next (s.portWrite8 s.regs.dx (s.r8 .al))

/-- `EF`: OUT DX,AX (R363). -/
def execOutDxAx (s : State) : Result :=
  .next (s.portWrite16 s.regs.dx (s.r16 .ax))

end Sys2Proof.Machine
end

