-- ==== Sys2Proof/Machine/PrefixHalt.lean ====
section
/-! DEFINITION. The prefix bytes and HLT (spec/48_prefix_halt.md), and the encodings that raise InvalidOpcode
(spec/30_encoding.md R125, R126). A prefix sets its latch and the step goes on with the next byte (R120). -/

namespace Sys2Proof.Machine

/-- `26`: ES: override (R370). -/
def execPrefixEs (s : State) : Result :=
  .next ({ s with segOverride := some .es })

/-- `2E`: CS: override (R370). -/
def execPrefixCs (s : State) : Result :=
  .next ({ s with segOverride := some .cs })

/-- `36`: SS: override (R370). -/
def execPrefixSs (s : State) : Result :=
  .next ({ s with segOverride := some .ss })

/-- `3E`: DS: override (R370). -/
def execPrefixDs (s : State) : Result :=
  .next ({ s with segOverride := some .ds })

/-- `F2`: REPNE/REPNZ (R372). -/
def execPrefixRepne (s : State) : Result :=
  .next ({ s with repMode := some .repne })

/-- `F3`: REP/REPE/REPZ (R371). -/
def execPrefixRep (s : State) : Result :=
  .next ({ s with repMode := some .rep })

/-- `F4`: HLT (R374). -/
def execHlt (s : State) : Result :=
  .next ({ s with runState := .halted })

/-- An unpopulated first byte: InvalidOpcode after the opcode byte has been fetched (R125, spec/60_exceptions.md R381). -/
def execInvalidOp (_op : Byte) (s : State) : Result :=
  .next (s.raise .invalidOpcode)

/-- An invalid sub-encoding: InvalidOpcode after the ModR/M byte and displacement have been fetched (R126, R381). -/
def execInvalidMrm (_op : Byte) (_g : BitVec 3) (_rm : Rm (BitVec 3)) (s : State) : Result :=
  .next (s.raise .invalidOpcode)

/-- The six prefix bytes of R119: the step goes on with the next byte. -/
def isPrefix : Instr → Bool
  | .prefixEs => true
  | .prefixCs => true
  | .prefixSs => true
  | .prefixDs => true
  | .prefixRepne => true
  | .prefixRep => true
  | _ => false

end Sys2Proof.Machine
end

