-- ==== Sys2Proof/Machine/ShiftRotate.lean ====
section
/-! DEFINITION. The shift and rotate instructions (spec/43_shift_rotate.md R270 to R278): each of the seven in its four forms
over the common algorithm of R271. -/

namespace Sys2Proof.Machine

/-! ### ROL (R272) -/

/-- `D0 /0`: ROL r/m8,1 -/
def execRolRm8One (rm : Rm Reg8) (s : State) : Result :=
  .next (shift8 .rol rm 1 s)

/-- `D1 /0`: ROL r/m16,1 -/
def execRolRm16One (rm : Rm Reg16) (s : State) : Result :=
  .next (shift16 .rol rm 1 s)

/-- `D2 /0`: ROL r/m8,CL -/
def execRolRm8Cl (rm : Rm Reg8) (s : State) : Result :=
  .next (shift8 .rol rm s.clCount s)

/-- `D3 /0`: ROL r/m16,CL -/
def execRolRm16Cl (rm : Rm Reg16) (s : State) : Result :=
  .next (shift16 .rol rm s.clCount s)

/-! ### ROR (R273) -/

/-- `D0 /1`: ROR r/m8,1 -/
def execRorRm8One (rm : Rm Reg8) (s : State) : Result :=
  .next (shift8 .ror rm 1 s)

/-- `D1 /1`: ROR r/m16,1 -/
def execRorRm16One (rm : Rm Reg16) (s : State) : Result :=
  .next (shift16 .ror rm 1 s)

/-- `D2 /1`: ROR r/m8,CL -/
def execRorRm8Cl (rm : Rm Reg8) (s : State) : Result :=
  .next (shift8 .ror rm s.clCount s)

/-- `D3 /1`: ROR r/m16,CL -/
def execRorRm16Cl (rm : Rm Reg16) (s : State) : Result :=
  .next (shift16 .ror rm s.clCount s)

/-! ### RCL (R274) -/

/-- `D0 /2`: RCL r/m8,1 -/
def execRclRm8One (rm : Rm Reg8) (s : State) : Result :=
  .next (shift8 .rcl rm 1 s)

/-- `D1 /2`: RCL r/m16,1 -/
def execRclRm16One (rm : Rm Reg16) (s : State) : Result :=
  .next (shift16 .rcl rm 1 s)

/-- `D2 /2`: RCL r/m8,CL -/
def execRclRm8Cl (rm : Rm Reg8) (s : State) : Result :=
  .next (shift8 .rcl rm s.clCount s)

/-- `D3 /2`: RCL r/m16,CL -/
def execRclRm16Cl (rm : Rm Reg16) (s : State) : Result :=
  .next (shift16 .rcl rm s.clCount s)

/-! ### RCR (R275) -/

/-- `D0 /3`: RCR r/m8,1 -/
def execRcrRm8One (rm : Rm Reg8) (s : State) : Result :=
  .next (shift8 .rcr rm 1 s)

/-- `D1 /3`: RCR r/m16,1 -/
def execRcrRm16One (rm : Rm Reg16) (s : State) : Result :=
  .next (shift16 .rcr rm 1 s)

/-- `D2 /3`: RCR r/m8,CL -/
def execRcrRm8Cl (rm : Rm Reg8) (s : State) : Result :=
  .next (shift8 .rcr rm s.clCount s)

/-- `D3 /3`: RCR r/m16,CL -/
def execRcrRm16Cl (rm : Rm Reg16) (s : State) : Result :=
  .next (shift16 .rcr rm s.clCount s)

/-! ### SHL (R276) -/

/-- `D0 /4`: SHL r/m8,1 -/
def execShlRm8One (rm : Rm Reg8) (s : State) : Result :=
  .next (shift8 .shl rm 1 s)

/-- `D1 /4`: SHL r/m16,1 -/
def execShlRm16One (rm : Rm Reg16) (s : State) : Result :=
  .next (shift16 .shl rm 1 s)

/-- `D2 /4`: SHL r/m8,CL -/
def execShlRm8Cl (rm : Rm Reg8) (s : State) : Result :=
  .next (shift8 .shl rm s.clCount s)

/-- `D3 /4`: SHL r/m16,CL -/
def execShlRm16Cl (rm : Rm Reg16) (s : State) : Result :=
  .next (shift16 .shl rm s.clCount s)

/-! ### SHR (R277) -/

/-- `D0 /5`: SHR r/m8,1 -/
def execShrRm8One (rm : Rm Reg8) (s : State) : Result :=
  .next (shift8 .shr rm 1 s)

/-- `D1 /5`: SHR r/m16,1 -/
def execShrRm16One (rm : Rm Reg16) (s : State) : Result :=
  .next (shift16 .shr rm 1 s)

/-- `D2 /5`: SHR r/m8,CL -/
def execShrRm8Cl (rm : Rm Reg8) (s : State) : Result :=
  .next (shift8 .shr rm s.clCount s)

/-- `D3 /5`: SHR r/m16,CL -/
def execShrRm16Cl (rm : Rm Reg16) (s : State) : Result :=
  .next (shift16 .shr rm s.clCount s)

/-! ### SAR (R278) -/

/-- `D0 /7`: SAR r/m8,1 -/
def execSarRm8One (rm : Rm Reg8) (s : State) : Result :=
  .next (shift8 .sar rm 1 s)

/-- `D1 /7`: SAR r/m16,1 -/
def execSarRm16One (rm : Rm Reg16) (s : State) : Result :=
  .next (shift16 .sar rm 1 s)

/-- `D2 /7`: SAR r/m8,CL -/
def execSarRm8Cl (rm : Rm Reg8) (s : State) : Result :=
  .next (shift8 .sar rm s.clCount s)

/-- `D3 /7`: SAR r/m16,CL -/
def execSarRm16Cl (rm : Rm Reg16) (s : State) : Result :=
  .next (shift16 .sar rm s.clCount s)

end Sys2Proof.Machine
end

