-- ==== Sys2Proof/Machine/StringPrimitives.lean ====
section
/-! DEFINITION. The string primitives and the repeat loop (spec/46_string.md R340 to R346). -/

namespace Sys2Proof.Machine

/-- `delta`: the operand size in bytes, negated when DF = 1 (R340). -/
def State.delta (s : State) (size : Word) : Word := if s.flags.DF then -size else size

/-- `advance(SI)` (R340). -/
def State.advanceSi (s : State) (size : Word) : State := s.setR16 .si (s.regs.si + s.delta size)

/-- `advance(DI)` (R340). -/
def State.advanceDi (s : State) (size : Word) : State := s.setR16 .di (s.regs.di + s.delta size)

/-- The byte at the source `DS:SI`, DS replaceable by an override (R340). -/
def State.source8 (s : State) : Byte := s.load8 (s.dataSeg .ds) s.regs.si

/-- The word at the source `DS:SI` (R340). -/
def State.source16 (s : State) : Word := s.load16 (s.dataSeg .ds) s.regs.si

/-- The byte at the destination `ES:DI`, never overridden (R340). -/
def State.dest8 (s : State) : Byte := s.load8 s.sregs.es s.regs.di

/-- The word at the destination `ES:DI` (R340). -/
def State.dest16 (s : State) : Word := s.load16 s.sregs.es s.regs.di

/-! ### One element -/

/-- One element of MOVSB (R342). -/
def movsElement8 (s : State) : State :=
  ((s.store8 s.sregs.es s.regs.di s.source8).advanceSi 1).advanceDi 1

/-- One element of MOVSW (R342). -/
def movsElement16 (s : State) : State :=
  ((s.store16 s.sregs.es s.regs.di s.source16).advanceSi 2).advanceDi 2

/-- One element of CMPSB: the flags of source minus destination (R343). -/
def cmpsElement8 (s : State) : State :=
  ((s.setFlags (subFlags s.source8 s.dest8 false s.flags).2).advanceSi 1).advanceDi 1

/-- One element of CMPSW (R343). -/
def cmpsElement16 (s : State) : State :=
  ((s.setFlags (subFlags s.source16 s.dest16 false s.flags).2).advanceSi 2).advanceDi 2

/-- One element of STOSB (R344). -/
def stosElement8 (s : State) : State := (s.store8 s.sregs.es s.regs.di (s.r8 .al)).advanceDi 1

/-- One element of STOSW (R344). -/
def stosElement16 (s : State) : State := (s.store16 s.sregs.es s.regs.di (s.r16 .ax)).advanceDi 2

/-- One element of LODSB: AH is unchanged (R345). -/
def lodsElement8 (s : State) : State := (s.setR8 .al s.source8).advanceSi 1

/-- One element of LODSW (R345). -/
def lodsElement16 (s : State) : State := (s.setR16 .ax s.source16).advanceSi 2

/-- One element of SCASB: the flags of AL minus destination (R346). -/
def scasElement8 (s : State) : State :=
  (s.setFlags (subFlags (s.r8 .al) s.dest8 false s.flags).2).advanceDi 1

/-- One element of SCASW (R346). -/
def scasElement16 (s : State) : State :=
  (s.setFlags (subFlags (s.r16 .ax) s.dest16 false s.flags).2).advanceDi 2

/-! ### The repeat loop -/

/-- A comparing primitive under `F3` stops at ZF = 0, under `F2` at ZF = 1 (R341). -/
def RepMode.stops (m : RepMode) (zf : Bool) : Bool :=
  match m with
  | .rep => !zf
  | .repne => zf

/-- The loop of R341 with `n` = CX iterations to go: one element, `CX <- CX - 1`, then the ZF test of a comparing
primitive. -/
def repeatLoop (compares : Bool) (m : RepMode) (element : State → State) : Nat → State → State
  | 0, s => s
  | n + 1, s =>
    let s := (element s).decCx
    if compares && m.stops s.flags.ZF then s else repeatLoop compares m element n s

/-- A string instruction: one element without a repeat prefix, which neither reads nor changes CX (R340); the loop
`while CX != 0` with one (R341). -/
def stringOp (compares : Bool) (element : State → State) (s : State) : State :=
  match s.repMode with
  | none => element s
  | some m => repeatLoop compares m element s.regs.cx.toNat s

/-- `A4`: MOVSB (R342, R341). -/
def execMovsb (s : State) : Result :=
  .next (stringOp false movsElement8 s)

/-- `A5`: MOVSW (R342, R341). -/
def execMovsw (s : State) : Result :=
  .next (stringOp false movsElement16 s)

/-- `A6`: CMPSB (R343, R341). -/
def execCmpsb (s : State) : Result :=
  .next (stringOp true cmpsElement8 s)

/-- `A7`: CMPSW (R343, R341). -/
def execCmpsw (s : State) : Result :=
  .next (stringOp true cmpsElement16 s)

/-- `AA`: STOSB (R344, R341). -/
def execStosb (s : State) : Result :=
  .next (stringOp false stosElement8 s)

/-- `AB`: STOSW (R344, R341). -/
def execStosw (s : State) : Result :=
  .next (stringOp false stosElement16 s)

/-- `AC`: LODSB (R345, R341). -/
def execLodsb (s : State) : Result :=
  .next (stringOp false lodsElement8 s)

/-- `AD`: LODSW (R345, R341). -/
def execLodsw (s : State) : Result :=
  .next (stringOp false lodsElement16 s)

/-- `AE`: SCASB (R346, R341). -/
def execScasb (s : State) : Result :=
  .next (stringOp true scasElement8 s)

/-- `AF`: SCASW (R346, R341). -/
def execScasw (s : State) : Result :=
  .next (stringOp true scasElement16 s)

end Sys2Proof.Machine
end

