-- ==== Sys2Proof/Machine/Dispatch.lean ====
section
/-! DEFINITION. The meaning of each instruction: one arm per constructor of `Instr`, one call of its meaning. -/

namespace Sys2Proof.Machine

def exec (i : Instr) (s : State) : Host.Outcome State Fault Refusal :=
  match i with
  -- ADD: spec/41_arithmetic.md R200, R201
  | .addRm8R8 rm r => Sys2Proof.Machine.execAddRm8R8 rm r s
  | .addRm16R16 rm r => Sys2Proof.Machine.execAddRm16R16 rm r s
  | .addR8Rm8 r rm => Sys2Proof.Machine.execAddR8Rm8 r rm s
  | .addR16Rm16 r rm => Sys2Proof.Machine.execAddR16Rm16 r rm s
  | .addAlIb ib => Sys2Proof.Machine.execAddAlIb ib s
  | .addAxIw iw => Sys2Proof.Machine.execAddAxIw iw s
  | .addRm8Ib rm ib => Sys2Proof.Machine.execAddRm8Ib rm ib s
  | .addRm16Iw rm iw => Sys2Proof.Machine.execAddRm16Iw rm iw s
  | .addRm8IbAlt rm ib => Sys2Proof.Machine.execAddRm8IbAlt rm ib s
  | .addRm16Ib rm ib => Sys2Proof.Machine.execAddRm16Ib rm ib s
  -- OR: spec/41_arithmetic.md R200, R251
  | .orRm8R8 rm r => Sys2Proof.Machine.execOrRm8R8 rm r s
  | .orRm16R16 rm r => Sys2Proof.Machine.execOrRm16R16 rm r s
  | .orR8Rm8 r rm => Sys2Proof.Machine.execOrR8Rm8 r rm s
  | .orR16Rm16 r rm => Sys2Proof.Machine.execOrR16Rm16 r rm s
  | .orAlIb ib => Sys2Proof.Machine.execOrAlIb ib s
  | .orAxIw iw => Sys2Proof.Machine.execOrAxIw iw s
  | .orRm8Ib rm ib => Sys2Proof.Machine.execOrRm8Ib rm ib s
  | .orRm16Iw rm iw => Sys2Proof.Machine.execOrRm16Iw rm iw s
  | .orRm8IbAlt rm ib => Sys2Proof.Machine.execOrRm8IbAlt rm ib s
  | .orRm16Ib rm ib => Sys2Proof.Machine.execOrRm16Ib rm ib s
  -- ADC: spec/41_arithmetic.md R200, R202
  | .adcRm8R8 rm r => Sys2Proof.Machine.execAdcRm8R8 rm r s
  | .adcRm16R16 rm r => Sys2Proof.Machine.execAdcRm16R16 rm r s
  | .adcR8Rm8 r rm => Sys2Proof.Machine.execAdcR8Rm8 r rm s
  | .adcR16Rm16 r rm => Sys2Proof.Machine.execAdcR16Rm16 r rm s
  | .adcAlIb ib => Sys2Proof.Machine.execAdcAlIb ib s
  | .adcAxIw iw => Sys2Proof.Machine.execAdcAxIw iw s
  | .adcRm8Ib rm ib => Sys2Proof.Machine.execAdcRm8Ib rm ib s
  | .adcRm16Iw rm iw => Sys2Proof.Machine.execAdcRm16Iw rm iw s
  | .adcRm8IbAlt rm ib => Sys2Proof.Machine.execAdcRm8IbAlt rm ib s
  | .adcRm16Ib rm ib => Sys2Proof.Machine.execAdcRm16Ib rm ib s
  -- SBB: spec/41_arithmetic.md R200, R204
  | .sbbRm8R8 rm r => Sys2Proof.Machine.execSbbRm8R8 rm r s
  | .sbbRm16R16 rm r => Sys2Proof.Machine.execSbbRm16R16 rm r s
  | .sbbR8Rm8 r rm => Sys2Proof.Machine.execSbbR8Rm8 r rm s
  | .sbbR16Rm16 r rm => Sys2Proof.Machine.execSbbR16Rm16 r rm s
  | .sbbAlIb ib => Sys2Proof.Machine.execSbbAlIb ib s
  | .sbbAxIw iw => Sys2Proof.Machine.execSbbAxIw iw s
  | .sbbRm8Ib rm ib => Sys2Proof.Machine.execSbbRm8Ib rm ib s
  | .sbbRm16Iw rm iw => Sys2Proof.Machine.execSbbRm16Iw rm iw s
  | .sbbRm8IbAlt rm ib => Sys2Proof.Machine.execSbbRm8IbAlt rm ib s
  | .sbbRm16Ib rm ib => Sys2Proof.Machine.execSbbRm16Ib rm ib s
  -- AND: spec/41_arithmetic.md R200, R250
  | .andRm8R8 rm r => Sys2Proof.Machine.execAndRm8R8 rm r s
  | .andRm16R16 rm r => Sys2Proof.Machine.execAndRm16R16 rm r s
  | .andR8Rm8 r rm => Sys2Proof.Machine.execAndR8Rm8 r rm s
  | .andR16Rm16 r rm => Sys2Proof.Machine.execAndR16Rm16 r rm s
  | .andAlIb ib => Sys2Proof.Machine.execAndAlIb ib s
  | .andAxIw iw => Sys2Proof.Machine.execAndAxIw iw s
  | .andRm8Ib rm ib => Sys2Proof.Machine.execAndRm8Ib rm ib s
  | .andRm16Iw rm iw => Sys2Proof.Machine.execAndRm16Iw rm iw s
  | .andRm8IbAlt rm ib => Sys2Proof.Machine.execAndRm8IbAlt rm ib s
  | .andRm16Ib rm ib => Sys2Proof.Machine.execAndRm16Ib rm ib s
  -- SUB: spec/41_arithmetic.md R200, R203
  | .subRm8R8 rm r => Sys2Proof.Machine.execSubRm8R8 rm r s
  | .subRm16R16 rm r => Sys2Proof.Machine.execSubRm16R16 rm r s
  | .subR8Rm8 r rm => Sys2Proof.Machine.execSubR8Rm8 r rm s
  | .subR16Rm16 r rm => Sys2Proof.Machine.execSubR16Rm16 r rm s
  | .subAlIb ib => Sys2Proof.Machine.execSubAlIb ib s
  | .subAxIw iw => Sys2Proof.Machine.execSubAxIw iw s
  | .subRm8Ib rm ib => Sys2Proof.Machine.execSubRm8Ib rm ib s
  | .subRm16Iw rm iw => Sys2Proof.Machine.execSubRm16Iw rm iw s
  | .subRm8IbAlt rm ib => Sys2Proof.Machine.execSubRm8IbAlt rm ib s
  | .subRm16Ib rm ib => Sys2Proof.Machine.execSubRm16Ib rm ib s
  -- XOR: spec/41_arithmetic.md R200, R252
  | .xorRm8R8 rm r => Sys2Proof.Machine.execXorRm8R8 rm r s
  | .xorRm16R16 rm r => Sys2Proof.Machine.execXorRm16R16 rm r s
  | .xorR8Rm8 r rm => Sys2Proof.Machine.execXorR8Rm8 r rm s
  | .xorR16Rm16 r rm => Sys2Proof.Machine.execXorR16Rm16 r rm s
  | .xorAlIb ib => Sys2Proof.Machine.execXorAlIb ib s
  | .xorAxIw iw => Sys2Proof.Machine.execXorAxIw iw s
  | .xorRm8Ib rm ib => Sys2Proof.Machine.execXorRm8Ib rm ib s
  | .xorRm16Iw rm iw => Sys2Proof.Machine.execXorRm16Iw rm iw s
  | .xorRm8IbAlt rm ib => Sys2Proof.Machine.execXorRm8IbAlt rm ib s
  | .xorRm16Ib rm ib => Sys2Proof.Machine.execXorRm16Ib rm ib s
  -- CMP: spec/41_arithmetic.md R200, R205
  | .cmpRm8R8 rm r => Sys2Proof.Machine.execCmpRm8R8 rm r s
  | .cmpRm16R16 rm r => Sys2Proof.Machine.execCmpRm16R16 rm r s
  | .cmpR8Rm8 r rm => Sys2Proof.Machine.execCmpR8Rm8 r rm s
  | .cmpR16Rm16 r rm => Sys2Proof.Machine.execCmpR16Rm16 r rm s
  | .cmpAlIb ib => Sys2Proof.Machine.execCmpAlIb ib s
  | .cmpAxIw iw => Sys2Proof.Machine.execCmpAxIw iw s
  | .cmpRm8Ib rm ib => Sys2Proof.Machine.execCmpRm8Ib rm ib s
  | .cmpRm16Iw rm iw => Sys2Proof.Machine.execCmpRm16Iw rm iw s
  | .cmpRm8IbAlt rm ib => Sys2Proof.Machine.execCmpRm8IbAlt rm ib s
  | .cmpRm16Ib rm ib => Sys2Proof.Machine.execCmpRm16Ib rm ib s
  -- INC, DEC, NEG: spec/41_arithmetic.md R206, R207, R208
  | .incR16 r => Sys2Proof.Machine.execIncR16 r s
  | .incRm8 rm => Sys2Proof.Machine.execIncRm8 rm s
  | .incRm16 rm => Sys2Proof.Machine.execIncRm16 rm s
  | .decR16 r => Sys2Proof.Machine.execDecR16 r s
  | .decRm8 rm => Sys2Proof.Machine.execDecRm8 rm s
  | .decRm16 rm => Sys2Proof.Machine.execDecRm16 rm s
  | .negRm8 rm => Sys2Proof.Machine.execNegRm8 rm s
  | .negRm16 rm => Sys2Proof.Machine.execNegRm16 rm s
  -- MUL, IMUL, DIV, IDIV: spec/41_arithmetic.md R209 to R212
  | .mulRm8 rm => Sys2Proof.Machine.execMulRm8 rm s
  | .mulRm16 rm => Sys2Proof.Machine.execMulRm16 rm s
  | .imulRm8 rm => Sys2Proof.Machine.execImulRm8 rm s
  | .imulRm16 rm => Sys2Proof.Machine.execImulRm16 rm s
  | .divRm8 rm => Sys2Proof.Machine.execDivRm8 rm s
  | .divRm16 rm => Sys2Proof.Machine.execDivRm16 rm s
  | .idivRm8 rm => Sys2Proof.Machine.execIdivRm8 rm s
  | .idivRm16 rm => Sys2Proof.Machine.execIdivRm16 rm s
  -- NOT, TEST: spec/42_logic.md R253, R254
  | .notRm8 rm => Sys2Proof.Machine.execNotRm8 rm s
  | .notRm16 rm => Sys2Proof.Machine.execNotRm16 rm s
  | .testRm8R8 rm r => Sys2Proof.Machine.execTestRm8R8 rm r s
  | .testRm16R16 rm r => Sys2Proof.Machine.execTestRm16R16 rm r s
  | .testAlIb ib => Sys2Proof.Machine.execTestAlIb ib s
  | .testAxIw iw => Sys2Proof.Machine.execTestAxIw iw s
  | .testRm8Ib rm ib => Sys2Proof.Machine.execTestRm8Ib rm ib s
  | .testRm16Iw rm iw => Sys2Proof.Machine.execTestRm16Iw rm iw s
  -- ROL: spec/43_shift_rotate.md R270, R272
  | .rolRm8One rm => Sys2Proof.Machine.execRolRm8One rm s
  | .rolRm16One rm => Sys2Proof.Machine.execRolRm16One rm s
  | .rolRm8Cl rm => Sys2Proof.Machine.execRolRm8Cl rm s
  | .rolRm16Cl rm => Sys2Proof.Machine.execRolRm16Cl rm s
  -- ROR: spec/43_shift_rotate.md R270, R273
  | .rorRm8One rm => Sys2Proof.Machine.execRorRm8One rm s
  | .rorRm16One rm => Sys2Proof.Machine.execRorRm16One rm s
  | .rorRm8Cl rm => Sys2Proof.Machine.execRorRm8Cl rm s
  | .rorRm16Cl rm => Sys2Proof.Machine.execRorRm16Cl rm s
  -- RCL: spec/43_shift_rotate.md R270, R274
  | .rclRm8One rm => Sys2Proof.Machine.execRclRm8One rm s
  | .rclRm16One rm => Sys2Proof.Machine.execRclRm16One rm s
  | .rclRm8Cl rm => Sys2Proof.Machine.execRclRm8Cl rm s
  | .rclRm16Cl rm => Sys2Proof.Machine.execRclRm16Cl rm s
  -- RCR: spec/43_shift_rotate.md R270, R275
  | .rcrRm8One rm => Sys2Proof.Machine.execRcrRm8One rm s
  | .rcrRm16One rm => Sys2Proof.Machine.execRcrRm16One rm s
  | .rcrRm8Cl rm => Sys2Proof.Machine.execRcrRm8Cl rm s
  | .rcrRm16Cl rm => Sys2Proof.Machine.execRcrRm16Cl rm s
  -- SHL: spec/43_shift_rotate.md R270, R276
  | .shlRm8One rm => Sys2Proof.Machine.execShlRm8One rm s
  | .shlRm16One rm => Sys2Proof.Machine.execShlRm16One rm s
  | .shlRm8Cl rm => Sys2Proof.Machine.execShlRm8Cl rm s
  | .shlRm16Cl rm => Sys2Proof.Machine.execShlRm16Cl rm s
  -- SHR: spec/43_shift_rotate.md R270, R277
  | .shrRm8One rm => Sys2Proof.Machine.execShrRm8One rm s
  | .shrRm16One rm => Sys2Proof.Machine.execShrRm16One rm s
  | .shrRm8Cl rm => Sys2Proof.Machine.execShrRm8Cl rm s
  | .shrRm16Cl rm => Sys2Proof.Machine.execShrRm16Cl rm s
  -- SAR: spec/43_shift_rotate.md R270, R278
  | .sarRm8One rm => Sys2Proof.Machine.execSarRm8One rm s
  | .sarRm16One rm => Sys2Proof.Machine.execSarRm16One rm s
  | .sarRm8Cl rm => Sys2Proof.Machine.execSarRm8Cl rm s
  | .sarRm16Cl rm => Sys2Proof.Machine.execSarRm16Cl rm s
  -- MOV: spec/40_data_movement.md R151 to R157, R160
  | .movRm8R8 rm r => Sys2Proof.Machine.execMovRm8R8 rm r s
  | .movRm16R16 rm r => Sys2Proof.Machine.execMovRm16R16 rm r s
  | .movR8Rm8 r rm => Sys2Proof.Machine.execMovR8Rm8 r rm s
  | .movR16Rm16 r rm => Sys2Proof.Machine.execMovR16Rm16 r rm s
  | .movRm16Sreg rm sr => Sys2Proof.Machine.execMovRm16Sreg rm sr s
  | .movSregRm16 sr rm => Sys2Proof.Machine.execMovSregRm16 sr rm s
  | .movAlMoffs off => Sys2Proof.Machine.execMovAlMoffs off s
  | .movAxMoffs off => Sys2Proof.Machine.execMovAxMoffs off s
  | .movMoffsAl off => Sys2Proof.Machine.execMovMoffsAl off s
  | .movMoffsAx off => Sys2Proof.Machine.execMovMoffsAx off s
  | .movR8Ib r ib => Sys2Proof.Machine.execMovR8Ib r ib s
  | .movR16Iw r iw => Sys2Proof.Machine.execMovR16Iw r iw s
  | .movRm8Ib rm ib => Sys2Proof.Machine.execMovRm8Ib rm ib s
  | .movRm16Iw rm iw => Sys2Proof.Machine.execMovRm16Iw rm iw s
  -- XCHG, LEA, LDS, LES: spec/40_data_movement.md R158, R159, R161, R169, R170
  | .xchgRm8R8 rm r => Sys2Proof.Machine.execXchgRm8R8 rm r s
  | .xchgRm16R16 rm r => Sys2Proof.Machine.execXchgRm16R16 rm r s
  | .xchgAxR16 r => Sys2Proof.Machine.execXchgAxR16 r s
  | .leaR16M r m => Sys2Proof.Machine.execLeaR16M r m s
  | .lesR16M r m => Sys2Proof.Machine.execLesR16M r m s
  | .ldsR16M r m => Sys2Proof.Machine.execLdsR16M r m s
  -- PUSH, POP: spec/40_data_movement.md R162 to R168
  | .pushR16 r => Sys2Proof.Machine.execPushR16 r s
  | .pushRm16 rm => Sys2Proof.Machine.execPushRm16 rm s
  | .pushEs => Sys2Proof.Machine.execPushEs s
  | .pushCs => Sys2Proof.Machine.execPushCs s
  | .pushSs => Sys2Proof.Machine.execPushSs s
  | .pushDs => Sys2Proof.Machine.execPushDs s
  | .popR16 r => Sys2Proof.Machine.execPopR16 r s
  | .popRm16 rm => Sys2Proof.Machine.execPopRm16 rm s
  | .popEs => Sys2Proof.Machine.execPopEs s
  | .popSs => Sys2Proof.Machine.execPopSs s
  | .popDs => Sys2Proof.Machine.execPopDs s
  -- Jcc: spec/44_control_flow.md R291 to R307
  | .jo cb => Sys2Proof.Machine.execJo cb s
  | .jno cb => Sys2Proof.Machine.execJno cb s
  | .jb cb => Sys2Proof.Machine.execJb cb s
  | .jnb cb => Sys2Proof.Machine.execJnb cb s
  | .je cb => Sys2Proof.Machine.execJe cb s
  | .jne cb => Sys2Proof.Machine.execJne cb s
  | .jbe cb => Sys2Proof.Machine.execJbe cb s
  | .jnbe cb => Sys2Proof.Machine.execJnbe cb s
  | .js cb => Sys2Proof.Machine.execJs cb s
  | .jns cb => Sys2Proof.Machine.execJns cb s
  | .jp cb => Sys2Proof.Machine.execJp cb s
  | .jnp cb => Sys2Proof.Machine.execJnp cb s
  | .jl cb => Sys2Proof.Machine.execJl cb s
  | .jnl cb => Sys2Proof.Machine.execJnl cb s
  | .jle cb => Sys2Proof.Machine.execJle cb s
  | .jnle cb => Sys2Proof.Machine.execJnle cb s
  -- JMP: spec/44_control_flow.md R308 to R312
  | .jmpShort cb => Sys2Proof.Machine.execJmpShort cb s
  | .jmpNear cw => Sys2Proof.Machine.execJmpNear cw s
  | .jmpFar off seg => Sys2Proof.Machine.execJmpFar off seg s
  | .jmpRm16 rm => Sys2Proof.Machine.execJmpRm16 rm s
  | .jmpM1616 m => Sys2Proof.Machine.execJmpM1616 m s
  -- CALL, RET, RETF: spec/44_control_flow.md R313 to R320
  | .callNear cw => Sys2Proof.Machine.execCallNear cw s
  | .callFar off seg => Sys2Proof.Machine.execCallFar off seg s
  | .callRm16 rm => Sys2Proof.Machine.execCallRm16 rm s
  | .callM1616 m => Sys2Proof.Machine.execCallM1616 m s
  | .ret => Sys2Proof.Machine.execRet s
  | .retIw iw => Sys2Proof.Machine.execRetIw iw s
  | .retf => Sys2Proof.Machine.execRetf s
  | .retfIw iw => Sys2Proof.Machine.execRetfIw iw s
  -- LOOP, LOOPE, LOOPNE, JCXZ: spec/44_control_flow.md R321 to R324
  | .loopne cb => Sys2Proof.Machine.execLoopne cb s
  | .loope cb => Sys2Proof.Machine.execLoope cb s
  | .loop cb => Sys2Proof.Machine.execLoop cb s
  | .jcxz cb => Sys2Proof.Machine.execJcxz cb s
  -- Flag manipulation: spec/45_flag_manipulation.md R330 to R336
  | .clc => Sys2Proof.Machine.execClc s
  | .stc => Sys2Proof.Machine.execStc s
  | .cli => Sys2Proof.Machine.execCli s
  | .sti => Sys2Proof.Machine.execSti s
  | .cld => Sys2Proof.Machine.execCld s
  | .std => Sys2Proof.Machine.execStd s
  | .cmc => Sys2Proof.Machine.execCmc s
  -- String primitives: spec/46_string.md R340 to R346
  | .movsb => Sys2Proof.Machine.execMovsb s
  | .movsw => Sys2Proof.Machine.execMovsw s
  | .cmpsb => Sys2Proof.Machine.execCmpsb s
  | .cmpsw => Sys2Proof.Machine.execCmpsw s
  | .stosb => Sys2Proof.Machine.execStosb s
  | .stosw => Sys2Proof.Machine.execStosw s
  | .lodsb => Sys2Proof.Machine.execLodsb s
  | .lodsw => Sys2Proof.Machine.execLodsw s
  | .scasb => Sys2Proof.Machine.execScasb s
  | .scasw => Sys2Proof.Machine.execScasw s
  -- Port I/O: spec/47_io.md R360 to R363
  | .inAlIb ib => Sys2Proof.Machine.execInAlIb ib s
  | .inAxIb ib => Sys2Proof.Machine.execInAxIb ib s
  | .inAlDx => Sys2Proof.Machine.execInAlDx s
  | .inAxDx => Sys2Proof.Machine.execInAxDx s
  | .outIbAl ib => Sys2Proof.Machine.execOutIbAl ib s
  | .outIbAx ib => Sys2Proof.Machine.execOutIbAx ib s
  | .outDxAl => Sys2Proof.Machine.execOutDxAl s
  | .outDxAx => Sys2Proof.Machine.execOutDxAx s
  -- Prefixes and HLT: spec/48_prefix_halt.md R370 to R376
  | .prefixEs => Sys2Proof.Machine.execPrefixEs s
  | .prefixCs => Sys2Proof.Machine.execPrefixCs s
  | .prefixSs => Sys2Proof.Machine.execPrefixSs s
  | .prefixDs => Sys2Proof.Machine.execPrefixDs s
  | .prefixRepne => Sys2Proof.Machine.execPrefixRepne s
  | .prefixRep => Sys2Proof.Machine.execPrefixRep s
  | .hlt => Sys2Proof.Machine.execHlt s
  -- Invalid encodings: spec/30_encoding.md R125, R126
  | .invalidOp op => Sys2Proof.Machine.execInvalidOp op s
  | .invalidMrm op g rm => Sys2Proof.Machine.execInvalidMrm op g rm s

end Sys2Proof.Machine
end

