-- ==== Sys2Proof/Machine/Cycle.lean ====
section
/-! DEFINITION. One step of the machine (spec/30_encoding.md R120): fetching at CS:IP, the prefix loop, what begins and
ends a step; and placing an instruction where the next step fetches it. -/

namespace Sys2Proof.Machine

/-- The longest instruction without prefixes, in bytes (R118). -/
def fetchLength : Nat := 6

/-- The physical address of the `k`-th byte from CS:IP: each byte is translated on its own, IP wraps modulo 2^16
(R100, R101, spec/10_state.md R27). -/
def State.fetchAddr (s : State) (k : Nat) : Addr := phys s.sregs.cs (s.ip + BitVec.ofNat 16 k)

/-- The next bytes at CS:IP, each an ordinary bus read (R100). A bus read changes no state (spec/20_memory.md R90) and
an instruction reads and writes no operand before its last byte is fetched (R102), so reading the window at once and
advancing IP by the instruction's length is the fetch of each byte in turn. -/
def State.fetchWindow (s : State) : List Byte := (List.range fetchLength).map fun k => s.busRead8 (s.fetchAddr k)

/-- IP after the given number of bytes has been fetched (R100). -/
def State.advanceIp (s : State) (n : Nat) : State := s.setIp (s.ip + BitVec.ofNat 16 n)

/-- The start of a step: `ip0 <- IP`, the latches empty (R120). -/
def State.begin (s : State) : State := { s with ip0 := s.ip, segOverride := none, repMode := none }

/-- `run_state <- Running unless the handler set Halted or Faulted` (R120). -/
def RunState.afterStep : RunState → RunState
  | .reset => .running
  | .running => .running
  | .halted => .halted
  | .faulted => .faulted

/-- The end of a step: the latches are emptied again (R120, spec/10_state.md R37). -/
def State.finish (s : State) : State :=
  { s with segOverride := none, repMode := none, ip0 := 0, runState := s.runState.afterStep }

/-- The fetch loop of R120 over the bytes of one step, a prefix byte at a time, then the instruction. A run of 65536
prefix bytes has read every offset of the code segment, and nothing it did can change one: the loop never ends (R130). -/
def runItems : Nat → State → Result
  | 0, _ => .fault .prefixHang
  | fuel + 1, s =>
    match decode s.fetchWindow with
    | .error _ => .refused .undecodable
    | .ok (i, rest) =>
      let s := s.advanceIp (fetchLength - rest.length)
      if isPrefix i then
        match exec i s with
        | .next s => runItems fuel s
        | .fault r => .fault r
        | .refused r => .refused r
      else exec i s

/-- One step from `Reset` or `Running` (R120). -/
def runStep (s : State) : Result :=
  match runItems 65536 s.begin with
  | .next s => .next s.finish
  | .fault r => .fault r
  | .refused r => .refused r

/-- `step()` (R120): in `Halted` and `Faulted` it returns at once, with nothing fetched and nothing changed
(spec/48_prefix_halt.md R375, spec/60_exceptions.md R386). -/
def cycle (s : State) : Result :=
  match s.runState with
  | .reset => runStep s
  | .running => runStep s
  | .halted => .next s
  | .faulted => .next s

/-! ### Placing an instruction -/

/-- Put one byte where the bus reads it: the byte is stored whatever the area's writable flag (an image is loaded, not
written: spec/20_memory.md R89), and an address no readable area covers gets a one-byte readable area. -/
def State.placeByte (s : State) (pa : Addr) (v : Byte) : State :=
  { s with
    mem := Memory.write s.mem pa.toNat v
    areas := if isReadable s.areas pa then s.areas else ⟨pa.toNat, pa.toNat, true, false⟩ :: s.areas }

/-- Place bytes at CS:IP, from the `k`-th on. -/
def State.placeFrom (s : State) (k : Nat) : List Byte → State
  | [] => s
  | b :: bs => (s.placeByte (s.fetchAddr k) b).placeFrom (k + 1) bs

/-- The state in which the next step fetches exactly these bytes at CS:IP: they are placed, and a machine that has
halted or faulted is set running (its fault record emptied), since it would fetch nothing. -/
def State.placeInstr (s : State) (bs : List Byte) : State :=
  let s := s.placeFrom 0 bs
  match s.runState with
  | .reset => s
  | .running => s
  | .halted => { s with runState := .running }
  | .faulted => { s with runState := .running, fault := none }

end Sys2Proof.Machine
end

