-- ==== Sys2Proof/Machine/Step.lean ====
section
/-! DEFINITION. The step of the machine and the state that runs one word of the opcode table next, by their fixed
names; what they do stands in Machine/Cycle.lean. -/

namespace Sys2Proof.Machine

/-- `CPU.step()` (spec/30_encoding.md R120). -/
def step (s : State) : Host.Outcome State Fault Refusal := cycle s

/-- `s` with the instruction of a table word stored where `step` fetches next (`tableBytes` says how the table numbers
an instruction's bits). -/
def State.withFetchWord (s : State) (nbits w : Nat) : State := s.placeInstr (tableBytes nbits w)

end Sys2Proof.Machine
end

