-- ==== Sys2Proof/Machine/Setup.lean ====
section
/-! DEFINITION. What the host does to the machine between steps and before the first one (spec/70_reset_and_hazards.md
R417): `reset()`, attaching areas and ports, loading an image. No instruction does any of this. -/

namespace Sys2Proof.Machine

/-- `reset()` (R410): no effect in `Faulted` (spec/60_exceptions.md R386). The eleven unspecified registers take free
values; memory, the maps, the devices and the fault record are unchanged (spec/10_state.md R36). -/
def State.resetAgain (s : State) : State :=
  if s.runState = .faulted then s
  else
    let u := Config.resetRegister s.draws
    { s with
      regs := ⟨u 0, u 1, u 2, u 3, u 4, u 5, u 6, u 7⟩
      sregs := { es := u 8, cs := 0xFFFF, ss := u 9, ds := u 10 }
      ip := 0x0000
      flags := ⟨false, false, false, false, false, false, false, false, false⟩
      segOverride := none
      repMode := none
      ip0 := 0
      runState := .reset
      draws := s.draws + 1 }

/-- `attach_area(area)`: after the areas already attached (spec/20_memory.md R64). -/
def State.attachArea (s : State) (a : MemArea) : State := { s with areas := s.areas ++ [a] }

/-- `attach_port(registration)`: refused if the port is already registered (R70). -/
def State.attachPort (s : State) (port : Word) : Option State :=
  if s.registered port then none else some { s with ports := s.ports ++ [port] }

/-- No two areas share an address: "regions attached to the same Bus must not overlap" (R64, R415). -/
def disjointAreas : List MemArea → Bool
  | [] => true
  | a :: areas => areas.all (fun b => decide (a.stop < b.start) || decide (b.stop < a.start)) && disjointAreas areas

/-- An area attached before the one at place `k` covers the address, so a bus access never reaches the latter's byte
there: the first attached wins (R64, R415, spec/93_implementation_defined.md U16). -/
def hiddenBefore (areas : List MemArea) (k : Nat) (pa : Addr) : Bool := (areas.take k).any fun b => areaCovers b pa

/-- Store the bytes of an image from an address on, whatever the writable flag (R89), but for those that an earlier
area hides: they are no bus access's bytes, and memory holds the bytes that the bus reaches (log entry 15). -/
def loadBytes (hidden : Addr → Bool) (m : List Host.Cell) (a : Nat) : List Byte → List Host.Cell
  | [] => m
  | b :: bs => loadBytes hidden (if hidden (BitVec.ofNat 20 a) then m else Memory.write m a b) (a + 1) bs

/-- `load_image(file, offset_within_region)` into the area at place `k` of the registration order: `SizeMismatch` (none)
unless the image fills the area exactly from the offset to its end (R89, R414). -/
def State.loadImage (s : State) (k offset : Nat) (image : List Byte) : Option State :=
  match s.areas[k]? with
  | none => none
  | some a =>
    if a.stop < 2 ^ 20 ∧ a.start + offset + image.length = a.stop + 1 then
      some { s with mem := loadBytes (hiddenBefore s.areas k) s.mem (a.start + offset) image }
    else none

end Sys2Proof.Machine
end

