-- ==== Sys2Proof/Safety.lean ====
section
/-! DEFINITION. What counts as a safe state and a safe run. On this hardware nothing a program does is unsafe for the
machine: a soft event goes on, a fatal event is the state `Faulted`, and the only step without a next state is the
endless run of prefix bytes (spec/30_encoding.md R130). -/

namespace Sys2Proof.Machine

/-- A step is taken (spec/10_state.md R38): the machine is neither halted nor faulted. -/
def State.runnable (s : State) : Bool :=
  match s.runState with
  | .reset => true
  | .running => true
  | .halted => false
  | .faulted => false

/-- The states between steps: memory in canonical form, the in-step latches empty (R37), and a fault record exactly
when the machine has faulted (R39). -/
def State.Inv (s : State) : Prop :=
  Memory.wf s.mem = true ∧ s.segOverride = none ∧ s.repMode = none ∧ s.ip0 = 0 ∧
  (s.runState = .faulted ↔ s.fault ≠ none)

/-- The six prefix bytes (spec/30_encoding.md R119). -/
def prefixBytes : List Byte := [0x26, 0x2E, 0x36, 0x3E, 0xF2, 0xF3]

/-- The step would never end: every offset of the code segment reads as a prefix byte (R130). -/
def State.Hangs (s : State) : Prop :=
  s.runnable = true ∧ ∀ offset : Word, s.busRead8 (phys s.sregs.cs offset) ∈ prefixBytes

/-- The outcomes a safe run may have at each step: a next state that keeps the invariant. -/
def SafeStep (s : State) : Prop := ∃ t, step s = .next t ∧ t.Inv

/-- The map is one the platform may build (spec/70_reset_and_hazards.md R415): no two areas overlap, no port twice. -/
def State.WellBuilt (s : State) : Prop := disjointAreas s.areas = true ∧ s.ports.Nodup

end Sys2Proof.Machine
end

