-- ==== Sys2Proof/Certificates/Slice0/Obligations.lean ====
section
/-! DEFINITION. The statements for the provers, `Obligations.<Name> : Prop`, after the vocabulary they are written in
(namespace `Stated`): what a state keeps, what is stored where, the flag rules as arithmetic on numbers, and the
instructions that share a shape. The rules are those of spec/, in the numbers' own arithmetic rather than in the
model's operations; a condition on the state is either one the rule names or `Memory.wf` (the canonical form that every
step keeps: `Obligations.StepKeepsInvariant`). -/

namespace Sys2Proof.Stated

open Sys2Proof.Machine

/-! ### Outcomes and frames -/

/-- The instruction answers a next state, and the state is as `P` says. -/
def Completes (i : Instr) (s : State) (P : State → Prop) : Prop := ∃ t, exec i s = .next t ∧ P t

/-- Run state, fault record, latches, maps and the record of the ports are unchanged. -/
def QuietKept (s t : State) : Prop :=
  t.runState = s.runState ∧ t.fault = s.fault ∧ t.segOverride = s.segOverride ∧ t.repMode = s.repMode ∧
  t.ip0 = s.ip0 ∧ t.areas = s.areas ∧ t.ports = s.ports ∧ t.answers = s.answers ∧ t.portLog = s.portLog

/-- Every segment register is unchanged. -/
def SregsKept (s t : State) : Prop := ∀ q, t.sr q = s.sr q

/-- Every general register is unchanged, and with it every 8-bit view. -/
def RegsKept (s t : State) : Prop := ∀ q, t.r16 q = s.r16 q

/-- Every general register but those named is unchanged. -/
def RegsKeptBut (rs : List Reg16) (s t : State) : Prop := ∀ q, q ∉ rs → t.r16 q = s.r16 q

/-- Every byte the memory areas hold is unchanged. -/
def MemKept (s t : State) : Prop := ∀ a, t.byteAt a = s.byteAt a

/-- What no instruction changes but control transfers, segment loads, prefixes, HLT, faults and port accesses do:
IP (already past the instruction, spec/10_state.md R27), segment registers, and the rest of the machine. -/
def OrdinaryKept (s t : State) : Prop := t.ip = s.ip ∧ SregsKept s t ∧ QuietKept s t

/-- Nothing is changed but FLAGS, IP and the draw counter. -/
def DataKept (s t : State) : Prop := RegsKept s t ∧ SregsKept s t ∧ MemKept s t ∧ QuietKept s t

/-- The byte is stored at the address, where the bus takes it (spec/20_memory.md R63); every other byte is as before. -/
def Stores8 (s t : State) (pa : Addr) (v : Byte) : Prop :=
  ∀ a, t.byteAt a = if a = pa ∧ isWritable s.areas a = true then v else s.byteAt a

/-- The word is stored, low byte at the address and high byte at the next (modulo 2^20), each where the bus takes it
(R68); every other byte is as before. -/
def Stores16 (s t : State) (pa : Addr) (v : Word) : Prop :=
  ∀ a, t.byteAt a =
    if a = pa ∧ isWritable s.areas a = true then lowByte v
    else if a = pa + 1 ∧ isWritable s.areas a = true then highByte v
    else s.byteAt a

/-- The byte operand holds `v`, and no other register or byte of memory has changed. The register case is told by the
16-bit registers: the other half of the home register is unchanged (spec/10_state.md R22). -/
def Writes8 (s t : State) (rm : Rm Reg8) (v : Byte) : Prop :=
  match rm with
  | .reg r =>
    t.r8 r = v ∧ (∀ q, q ≠ r → t.r8 q = s.r8 q) ∧ (∀ q ∈ [Reg16.sp, .bp, .si, .di], t.r16 q = s.r16 q) ∧ MemKept s t
  | .mem m => RegsKept s t ∧ Stores8 s t (s.memAddr m) v

/-- The word operand holds `v`, and no other register or byte of memory has changed. -/
def Writes16 (s t : State) (rm : Rm Reg16) (v : Word) : Prop :=
  match rm with
  | .reg r => t.r16 r = v ∧ RegsKeptBut [r] s t ∧ MemKept s t
  | .mem m => RegsKept s t ∧ Stores16 s t (s.memAddr m) v

/-- A fault: the record is made and the run state is `Faulted`, the latches are empty, nothing else has changed
(spec/60_exceptions.md R381, R382). -/
def FaultsWith (c : Cause) (s t : State) : Prop :=
  t = { s with fault := some ⟨c, s.sregs.cs, s.ip0⟩, runState := .faulted, segOverride := none, repMode := none }

/-! ### Flag rules, as arithmetic -/

/-- TF, IF and DF are unchanged. -/
def ControlKept (f g : Flags) : Prop := g.TF = f.TF ∧ g.IF = f.IF ∧ g.DF = f.DF

/-- The number of 1 bits among the low eight. -/
def onesOfLow8 (n : Nat) : Nat := (List.range 8).countP fun i => n.testBit i

/-- SF, ZF and PF of a result (spec/10_state.md R40, R41). -/
def ResultFlags {w : Nat} (r : BitVec w) (g : Flags) : Prop :=
  g.SF = decide (2 ^ (w - 1) ≤ r.toNat) ∧ g.ZF = decide (r.toNat = 0) ∧ g.PF = decide (onesOfLow8 r.toNat % 2 = 0)

/-- `AddFlags(w, a, b, cin)` of R42, on unbounded numbers. -/
def AddRule {w : Nat} (a b : BitVec w) (cin : Bool) (f : Flags) (r : BitVec w) (g : Flags) : Prop :=
  let sum := a.toNat + b.toNat + cin.toNat
  r.toNat = sum % 2 ^ w ∧
  g.CF = decide (2 ^ w ≤ sum) ∧
  g.OF = decide ((a.toNat ^^^ r.toNat) &&& (b.toNat ^^^ r.toNat) &&& 2 ^ (w - 1) ≠ 0) ∧
  g.AF = decide ((a.toNat ^^^ b.toNat ^^^ r.toNat) / 2 ^ 4 % 2 = 1) ∧
  ResultFlags r g ∧ ControlKept f g

/-- `SubFlags(w, a, b, bin)` of R43, on unbounded numbers. -/
def SubRule {w : Nat} (a b : BitVec w) (bin : Bool) (f : Flags) (r : BitVec w) (g : Flags) : Prop :=
  let difference : Int := a.toNat - b.toNat - bin.toNat
  (r.toNat : Int) = difference % 2 ^ w ∧
  g.CF = decide (difference < 0) ∧
  g.OF = decide ((a.toNat ^^^ b.toNat) &&& (a.toNat ^^^ r.toNat) &&& 2 ^ (w - 1) ≠ 0) ∧
  g.AF = decide ((a.toNat ^^^ b.toNat ^^^ r.toNat) / 2 ^ 4 % 2 = 1) ∧
  ResultFlags r g ∧ ControlKept f g

/-- `LogicFlags(w, r)` of R44; nothing is said of AF, which is free. -/
def LogicRule {w : Nat} (r : BitVec w) (f g : Flags) : Prop :=
  g.CF = false ∧ g.OF = false ∧ ResultFlags r g ∧ ControlKept f g

/-- `IncFlags(w, a)` of R45. -/
def IncRule {w : Nat} (a : BitVec w) (f : Flags) (r : BitVec w) (g : Flags) : Prop :=
  r.toNat = (a.toNat + 1) % 2 ^ w ∧ g.CF = f.CF ∧ g.OF = decide (a.toNat = 2 ^ (w - 1) - 1) ∧
  g.AF = decide (a.toNat % 16 = 0xF) ∧ ResultFlags r g ∧ ControlKept f g

/-- `DecFlags(w, a)` of R45. -/
def DecRule {w : Nat} (a : BitVec w) (f : Flags) (r : BitVec w) (g : Flags) : Prop :=
  (r.toNat : Int) = ((a.toNat : Int) - 1) % 2 ^ w ∧ g.CF = f.CF ∧ g.OF = decide (a.toNat = 2 ^ (w - 1)) ∧
  g.AF = decide (a.toNat % 16 = 0) ∧ ResultFlags r g ∧ ControlKept f g

/-- The function `f(w, a, b)` of spec/41_arithmetic.md R201 to R205 and spec/42_logic.md R250 to R252. -/
def AluRule {w : Nat} (k : Alu) (a b : BitVec w) (f : Flags) (r : BitVec w) (g : Flags) : Prop :=
  match k with
  | .add => AddRule a b false f r g
  | .adc => AddRule a b f.CF f r g
  | .sub => SubRule a b false f r g
  | .sbb => SubRule a b f.CF f r g
  | .cmp => SubRule a b false f r g
  | .and => r.toNat = a.toNat &&& b.toNat ∧ LogicRule r f g
  | .or => r.toNat = a.toNat ||| b.toNat ∧ LogicRule r f g
  | .xor => r.toNat = a.toNat ^^^ b.toNat ∧ LogicRule r f g

/-- The common operation of R200 on bytes: the flags by the rule, the destination written but by CMP, nothing else. -/
def AluEffect8 (k : Alu) (dst : Rm Reg8) (b : Byte) (s t : State) : Prop :=
  ∃ r : Byte, AluRule k (s.readRm8 dst) b s.flags r t.flags ∧ OrdinaryKept s t ∧
    if k = .cmp then RegsKept s t ∧ MemKept s t else Writes8 s t dst r

/-- The common operation of R200 on words. -/
def AluEffect16 (k : Alu) (dst : Rm Reg16) (b : Word) (s t : State) : Prop :=
  ∃ r : Word, AluRule k (s.readRm16 dst) b s.flags r t.flags ∧ OrdinaryKept s t ∧
    if k = .cmp then RegsKept s t ∧ MemKept s t else Writes16 s t dst r

/-- TEST (spec/42_logic.md R254): only FLAGS is written. -/
def TestEffect {w : Nat} (a b : BitVec w) (s t : State) : Prop :=
  ∃ r : BitVec w, r.toNat = a.toNat &&& b.toNat ∧ LogicRule r s.flags t.flags ∧ t.ip = s.ip ∧ DataKept s t

/-! ### Shifts and rotates, in closed form -/

/-- The value and the last bit out after `n` steps on the operand `x` with CF = `c`, in the closed forms that
spec/43_shift_rotate.md R271 allows: `count mod w` for a rotate, `count mod (w + 1)` on `CF ++ x` for a rotate through
carry, powers of two for a shift. The carry is meant for `n ≥ 1` only. -/
def shiftClosed (w : Nat) (k : Shift) (n : Nat) (x : BitVec w) (c : Bool) : Nat × Bool :=
  match k with
  | .rol =>
    let v := (x.toNat * 2 ^ (n % w) + x.toNat / 2 ^ (w - n % w)) % 2 ^ w
    (v, v.testBit 0)
  | .ror =>
    let v := (x.toNat / 2 ^ (n % w) + x.toNat * 2 ^ (w - n % w)) % 2 ^ w
    (v, v.testBit (w - 1))
  | .rcl =>
    let z := c.toNat * 2 ^ w + x.toNat
    let v := (z * 2 ^ (n % (w + 1)) + z / 2 ^ (w + 1 - n % (w + 1))) % 2 ^ (w + 1)
    (v % 2 ^ w, v.testBit w)
  | .rcr =>
    let z := c.toNat * 2 ^ w + x.toNat
    let v := (z / 2 ^ (n % (w + 1)) + z * 2 ^ (w + 1 - n % (w + 1))) % 2 ^ (w + 1)
    (v % 2 ^ w, v.testBit w)
  | .shl => (x.toNat * 2 ^ n % 2 ^ w, (x.toNat * 2 ^ n).testBit w)
  | .shr => (x.toNat / 2 ^ n, (x.toNat / 2 ^ (n - 1)).testBit 0)
  | .sar => ((x.toInt / 2 ^ n % 2 ^ w).toNat, decide (x.toInt / 2 ^ (n - 1) % 2 = 1))

/-- The `OF1` expressions of R272 to R278, on numbers. -/
def shiftOverflow (w : Nat) (k : Shift) (x v : Nat) (c : Bool) : Bool :=
  match k with
  | .rol => v.testBit (w - 1) ^^ c
  | .ror => v.testBit (w - 1) ^^ v.testBit (w - 2)
  | .rcl => v.testBit (w - 1) ^^ c
  | .rcr => v.testBit (w - 1) ^^ v.testBit (w - 2)
  | .shl => v.testBit (w - 1) ^^ c
  | .shr => x.testBit (w - 1)
  | .sar => false

/-- The flags of R271: none changed by a count of 0; else CF is the last bit out, OF is told for a count of 1 only, and
a shift writes SF, ZF, PF (AF is free) where a rotate keeps the four. -/
def ShiftFlags {w : Nat} (k : Shift) (n : Nat) (x : BitVec w) (f : Flags) (r : BitVec w) (g : Flags) : Prop :=
  if n = 0 then g = f
  else
    g.CF = (shiftClosed w k n x f.CF).2 ∧
    (n = 1 → g.OF = shiftOverflow w k x.toNat r.toNat g.CF) ∧
    ControlKept f g ∧
    if k = .shl ∨ k = .shr ∨ k = .sar then ResultFlags r g
    else g.SF = f.SF ∧ g.ZF = f.ZF ∧ g.AF = f.AF ∧ g.PF = f.PF

/-- A shift or rotate of a byte operand by `n`: read once, written once (also for a count of 0), nothing else. -/
def ShiftEffect8 (k : Shift) (rm : Rm Reg8) (n : Nat) (s t : State) : Prop :=
  ∃ r : Byte, r.toNat = (shiftClosed 8 k n (s.readRm8 rm) s.flags.CF).1 ∧
    ShiftFlags k n (s.readRm8 rm) s.flags r t.flags ∧ Writes8 s t rm r ∧ OrdinaryKept s t

/-- A shift or rotate of a word operand by `n`. -/
def ShiftEffect16 (k : Shift) (rm : Rm Reg16) (n : Nat) (s t : State) : Prop :=
  ∃ r : Word, r.toNat = (shiftClosed 16 k n (s.readRm16 rm) s.flags.CF).1 ∧
    ShiftFlags k n (s.readRm16 rm) s.flags r t.flags ∧ Writes16 s t rm r ∧ OrdinaryKept s t

/-! ### Instructions of one shape -/

/-- `B+0 /r` of the eight instructions. -/
def aluRm8R8 : Alu → Rm Reg8 → Reg8 → Instr
  | .add => .addRm8R8
  | .or => .orRm8R8
  | .adc => .adcRm8R8
  | .sbb => .sbbRm8R8
  | .and => .andRm8R8
  | .sub => .subRm8R8
  | .xor => .xorRm8R8
  | .cmp => .cmpRm8R8

/-- `B+2 /r` of the eight instructions. -/
def aluR8Rm8 : Alu → Reg8 → Rm Reg8 → Instr
  | .add => .addR8Rm8
  | .or => .orR8Rm8
  | .adc => .adcR8Rm8
  | .sbb => .sbbR8Rm8
  | .and => .andR8Rm8
  | .sub => .subR8Rm8
  | .xor => .xorR8Rm8
  | .cmp => .cmpR8Rm8

/-- `B+4 ib` of the eight instructions. -/
def aluAlIb : Alu → Byte → Instr
  | .add => .addAlIb
  | .or => .orAlIb
  | .adc => .adcAlIb
  | .sbb => .sbbAlIb
  | .and => .andAlIb
  | .sub => .subAlIb
  | .xor => .xorAlIb
  | .cmp => .cmpAlIb

/-- `80 /n ib` of the eight instructions. -/
def aluRm8Ib : Alu → Rm Reg8 → Byte → Instr
  | .add => .addRm8Ib
  | .or => .orRm8Ib
  | .adc => .adcRm8Ib
  | .sbb => .sbbRm8Ib
  | .and => .andRm8Ib
  | .sub => .subRm8Ib
  | .xor => .xorRm8Ib
  | .cmp => .cmpRm8Ib

/-- `82 /n ib` of the eight instructions. -/
def aluRm8IbAlt : Alu → Rm Reg8 → Byte → Instr
  | .add => .addRm8IbAlt
  | .or => .orRm8IbAlt
  | .adc => .adcRm8IbAlt
  | .sbb => .sbbRm8IbAlt
  | .and => .andRm8IbAlt
  | .sub => .subRm8IbAlt
  | .xor => .xorRm8IbAlt
  | .cmp => .cmpRm8IbAlt

/-- `B+1 /r` of the eight instructions. -/
def aluRm16R16 : Alu → Rm Reg16 → Reg16 → Instr
  | .add => .addRm16R16
  | .or => .orRm16R16
  | .adc => .adcRm16R16
  | .sbb => .sbbRm16R16
  | .and => .andRm16R16
  | .sub => .subRm16R16
  | .xor => .xorRm16R16
  | .cmp => .cmpRm16R16

/-- `B+3 /r` of the eight instructions. -/
def aluR16Rm16 : Alu → Reg16 → Rm Reg16 → Instr
  | .add => .addR16Rm16
  | .or => .orR16Rm16
  | .adc => .adcR16Rm16
  | .sbb => .sbbR16Rm16
  | .and => .andR16Rm16
  | .sub => .subR16Rm16
  | .xor => .xorR16Rm16
  | .cmp => .cmpR16Rm16

/-- `B+5 iw` of the eight instructions. -/
def aluAxIw : Alu → Word → Instr
  | .add => .addAxIw
  | .or => .orAxIw
  | .adc => .adcAxIw
  | .sbb => .sbbAxIw
  | .and => .andAxIw
  | .sub => .subAxIw
  | .xor => .xorAxIw
  | .cmp => .cmpAxIw

/-- `81 /n iw` of the eight instructions. -/
def aluRm16Iw : Alu → Rm Reg16 → Word → Instr
  | .add => .addRm16Iw
  | .or => .orRm16Iw
  | .adc => .adcRm16Iw
  | .sbb => .sbbRm16Iw
  | .and => .andRm16Iw
  | .sub => .subRm16Iw
  | .xor => .xorRm16Iw
  | .cmp => .cmpRm16Iw

/-- `83 /n ib` of the eight instructions. -/
def aluRm16Ib : Alu → Rm Reg16 → Byte → Instr
  | .add => .addRm16Ib
  | .or => .orRm16Ib
  | .adc => .adcRm16Ib
  | .sbb => .sbbRm16Ib
  | .and => .andRm16Ib
  | .sub => .subRm16Ib
  | .xor => .xorRm16Ib
  | .cmp => .cmpRm16Ib

/-- `D0 /n` of the seven shifts and rotates. -/
def shiftRm8One : Shift → Rm Reg8 → Instr
  | .rol => .rolRm8One
  | .ror => .rorRm8One
  | .rcl => .rclRm8One
  | .rcr => .rcrRm8One
  | .shl => .shlRm8One
  | .shr => .shrRm8One
  | .sar => .sarRm8One

/-- `D1 /n` of the seven shifts and rotates. -/
def shiftRm16One : Shift → Rm Reg16 → Instr
  | .rol => .rolRm16One
  | .ror => .rorRm16One
  | .rcl => .rclRm16One
  | .rcr => .rcrRm16One
  | .shl => .shlRm16One
  | .shr => .shrRm16One
  | .sar => .sarRm16One

/-- `D2 /n` of the seven shifts and rotates. -/
def shiftRm8Cl : Shift → Rm Reg8 → Instr
  | .rol => .rolRm8Cl
  | .ror => .rorRm8Cl
  | .rcl => .rclRm8Cl
  | .rcr => .rcrRm8Cl
  | .shl => .shlRm8Cl
  | .shr => .shrRm8Cl
  | .sar => .sarRm8Cl

/-- `D3 /n` of the seven shifts and rotates. -/
def shiftRm16Cl : Shift → Rm Reg16 → Instr
  | .rol => .rolRm16Cl
  | .ror => .rorRm16Cl
  | .rcl => .rclRm16Cl
  | .rcr => .rcrRm16Cl
  | .shl => .shlRm16Cl
  | .shr => .shrRm16Cl
  | .sar => .sarRm16Cl
/-- The base opcode `B` of R200. -/
def aluBase : Alu → Byte
  | .add => 0x00
  | .or => 0x08
  | .adc => 0x10
  | .sbb => 0x18
  | .and => 0x20
  | .sub => 0x28
  | .xor => 0x30
  | .cmp => 0x38

/-- The group-1 sub-opcode `n` of R200. -/
def aluSub : Alu → BitVec 3
  | .add => 0
  | .or => 1
  | .adc => 2
  | .sbb => 3
  | .and => 4
  | .sub => 5
  | .xor => 6
  | .cmp => 7

/-- The sixteen conditional jumps by condition number, with the table of spec/44_control_flow.md R291. -/
def jumps : List (Nat × (Byte → Instr) × (Flags → Bool)) :=
  [(0x0, .jo, fun f => f.OF), (0x1, .jno, fun f => !f.OF), (0x2, .jb, fun f => f.CF), (0x3, .jnb, fun f => !f.CF),
   (0x4, .je, fun f => f.ZF), (0x5, .jne, fun f => !f.ZF), (0x6, .jbe, fun f => f.CF || f.ZF),
   (0x7, .jnbe, fun f => !f.CF && !f.ZF)] ++
  [(0x8, .js, fun f => f.SF), (0x9, .jns, fun f => !f.SF), (0xA, .jp, fun f => f.PF), (0xB, .jnp, fun f => !f.PF),
   (0xC, .jl, fun f => f.SF != f.OF), (0xD, .jnl, fun f => f.SF == f.OF),
   (0xE, .jle, fun f => f.ZF || f.SF != f.OF), (0xF, .jnle, fun f => !f.ZF && f.SF == f.OF)]

/-- The ten string instructions: whether one compares, and the instruction. -/
def strings : List (Bool × Instr) :=
  [(false, .movsb), (false, .movsw), (true, .cmpsb), (true, .cmpsw), (false, .stosb), (false, .stosw),
   (false, .lodsb), (false, .lodsw), (true, .scasb), (true, .scasw)]

/-! ### Shared shapes of effects -/

/-- Only IP has changed: a jump inside the code segment. -/
def JumpsTo (s t : State) (target : Nat) : Prop :=
  t.ip.toNat = target % 2 ^ 16 ∧ t.flags = s.flags ∧ DataKept s t

/-- A push (spec/20_memory.md R76): SP is two lower (modulo 2^16), the word stands at SS:SP of the new SP. Registers
but SP, and every other byte of memory, are unchanged. -/
def Pushes (s t : State) (v : Word) : Prop :=
  ((t.r16 .sp).toNat : Int) = ((s.r16 .sp).toNat - 2 : Int) % 2 ^ 16 ∧ RegsKeptBut [.sp] s t ∧
  Stores16 s t (phys (s.sr .ss) (t.r16 .sp)) v

/-- Two pushes: the first word at the higher address. -/
def PushesTwo (s t : State) (first second : Word) : Prop :=
  ∃ u, Pushes s u first ∧ Pushes u t second ∧ u.areas = s.areas ∧ SregsKept s u

/-- The word at SS:SP (R77). -/
def topWord (s : State) : Word := s.memRead16 (phys (s.sr .ss) (s.r16 .sp))

/-- SP is `n` higher, modulo 2^16. -/
def SpRaised (s t : State) (n : Nat) : Prop := (t.r16 .sp).toNat = ((s.r16 .sp).toNat + n) % 2 ^ 16

/-- The pointer moves by the operand size, down when DF = 1, modulo 2^16 (spec/46_string.md R340). -/
def advanced (s : State) (p : Word) (size : Nat) : Word :=
  BitVec.ofInt 16 (if s.flags.DF then (p.toNat : Int) - size else p.toNat + size)

/-- One byte is asked of a port (spec/20_memory.md R71): the value `v` and the state `t` after it. An unregistered port
gives 0 and changes nothing; a registered device answers as the input stream says, or, past its end, as it likes. -/
def PortReads (s : State) (port : Word) (v : Byte) (t : State) : Prop :=
  (port ∉ s.ports ∧ v = 0 ∧ t = s) ∨
  (port ∈ s.ports ∧ ∃ a : DeviceAnswer, (s.answers ≠ [] → s.answers.head? = some a) ∧ v = a.value ∧
    t.portLog = s.portLog ++ [⟨.read port, a⟩] ∧ t.answers = s.answers.tail ∧
    t.mem = (a.writes.foldl (fun u w => u.busWrite8 w.1 w.2) s).mem ∧
    t.regs = s.regs ∧ t.sregs = s.sregs ∧ t.ip = s.ip ∧ t.flags = s.flags ∧ t.runState = s.runState ∧
    t.fault = s.fault ∧ t.segOverride = s.segOverride ∧ t.repMode = s.repMode ∧ t.ip0 = s.ip0 ∧
    t.areas = s.areas ∧ t.ports = s.ports)

/-- One byte is given to a port (R72). -/
def PortWrites (s : State) (port : Word) (v : Byte) (t : State) : Prop :=
  (port ∉ s.ports ∧ t = s) ∨
  (port ∈ s.ports ∧ ∃ a : DeviceAnswer, (s.answers ≠ [] → s.answers.head? = some a) ∧
    t.portLog = s.portLog ++ [⟨.write port v, a⟩] ∧ t.answers = s.answers.tail ∧
    t.mem = (a.writes.foldl (fun u w => u.busWrite8 w.1 w.2) s).mem ∧
    t.regs = s.regs ∧ t.sregs = s.sregs ∧ t.ip = s.ip ∧ t.flags = s.flags ∧ t.runState = s.runState ∧
    t.fault = s.fault ∧ t.segOverride = s.segOverride ∧ t.repMode = s.repMode ∧ t.ip0 = s.ip0 ∧
    t.areas = s.areas ∧ t.ports = s.ports)

/-- IN to AL from a port: the callback, then AL is written; AH and every other register are unchanged. -/
def InByte (s t : State) (port : Word) : Prop :=
  ∃ u v, PortReads s port v u ∧ t.flags = s.flags ∧ OrdinaryKept u t ∧ Writes8 u t (.reg .al) v

/-- IN to AX: the low byte from the port, then the high byte from the next port number (modulo 2^16) (R73). -/
def InWord (s t : State) (port : Word) : Prop :=
  ∃ u u' lo hi, PortReads s port lo u ∧ PortReads u (port + 1) hi u' ∧ t.flags = s.flags ∧ OrdinaryKept u' t ∧
    (t.r16 .ax).toNat = hi.toNat * 256 + lo.toNat ∧ RegsKeptBut [.ax] u' t ∧ MemKept u' t

/-- OUT of AX: the low byte to the port, then the high byte to the next port number (R73). -/
def OutWord (s t : State) (port : Word) : Prop := ∃ u, PortWrites s port (s.r8 .al) u ∧ PortWrites u (port + 1) (s.r8 .ah) t

/-! ### Bytes at CS:IP -/

/-- The bytes from CS:IP on, each translated on its own with IP wrapping modulo 2^16, are `bs`
(spec/30_encoding.md R100, R101). -/
def FetchesAs (s : State) (bs : List Byte) : Prop :=
  ∀ k, (h : k < bs.length) → s.busRead8 (phys s.sregs.cs (s.ip + BitVec.ofNat 16 k)) = bs[k]

/-- The segment a prefix byte selects (R117, R119). -/
def overrideOf (b : Byte) : Option Sreg :=
  if b = 0x26 then some .es else if b = 0x2E then some .cs else if b = 0x36 then some .ss
  else if b = 0x3E then some .ds else none

/-- The repeat mode a prefix byte selects (R119). -/
def repeatOf (b : Byte) : Option RepMode :=
  if b = 0xF3 then some .rep else if b = 0xF2 then some .repne else none

/-- The last of its kind among the prefix bytes (R119, spec/48_prefix_halt.md R373). -/
def lastOf {X : Type} (kind : Byte → Option X) (ps : List Byte) : Option X := (ps.filterMap kind).getLast?

/-- The state a step hands to the instruction: the latches as the prefixes say, `ip0` at the first byte, IP past the
whole instruction (R120). -/
def entered (s : State) (ps : List Byte) (length : Nat) : State :=
  { s with ip := s.ip + BitVec.ofNat 16 (ps.length + length), ip0 := s.ip,
           segOverride := lastOf overrideOf ps, repMode := lastOf repeatOf ps }

/-- The state a step leaves (R120): latches empty, `Running` unless halted or faulted. -/
def stepEnd (t : State) : State :=
  { t with segOverride := none, repMode := none, ip0 := 0,
           runState := if t.runState = .reset then .running else t.runState }

/-- The outcome of a step from the outcome of its instruction. -/
def stepOutcome : Result → Result
  | .next t => .next (stepEnd t)
  | .fault r => .fault r
  | .refused r => .refused r

/-- A change of state applied to the next state of an outcome. -/
def mapNext (f : State → State) : Result → Result
  | .next t => .next (f t)
  | .fault r => .fault r
  | .refused r => .refused r

def withTF (b : Bool) (s : State) : State := { s with flags := { s.flags with TF := b } }

def withIF (b : Bool) (s : State) : State := { s with flags := { s.flags with IF := b } }

def withRep (m : Option RepMode) (s : State) : State := { s with repMode := m }

def withOverride (o : Option Sreg) (s : State) : State := { s with segOverride := o }

end Sys2Proof.Stated

section

open Sys2Proof Sys2Proof.Machine Sys2Proof.Stated

/-! ### Encoding and decoding -/

/-- Decoding undoes encoding, for every well-formed instruction and whatever bytes follow: no bit of an encoding is
dropped (spec/30_encoding.md R102 to R119). -/
def Obligations.DecodeOfEncode : Prop :=
  ∀ (i : Instr) (rest : List Byte), i.wf = true → decode (encode i ++ rest) = .ok (i, rest)

/-- Encoding undoes decoding: whatever decodes is a well-formed instruction, and its encoding is the bytes it was
decoded from; so every instruction has one encoding, and nothing decodes outside the encodings of the spec.
(That the redundant encodings under 82 are instructions of their own beside those under 80, R127, so that each
instruction has one encoding, is the model's choice: log entry 14.) -/
def Obligations.EncodeOfDecode : Prop :=
  ∀ (bs rest : List Byte) (i : Instr), decode bs = .ok (i, rest) → i.wf = true ∧ encode i ++ rest = bs

/-- The longest instruction without prefixes has six bytes (R118): any six bytes or more begin with a whole instruction,
which takes at least one of them and at most six; so the decoder never refuses what a step fetches. -/
def Obligations.SixBytesDecode : Prop :=
  ∀ bs : List Byte, 6 ≤ bs.length →
    ∃ i used rest, decode bs = .ok (i, rest) ∧ bs = used ++ rest ∧ 1 ≤ used.length ∧ used.length ≤ 6

/-- Bytes written out in the spec decode to the instruction they stand for. -/
def Obligations.DecodedBytes : Prop :=
  decode [0xEA, 0x00, 0x00, 0x00, 0xF0] = .ok (.jmpFar 0x0000 0xF000, []) ∧
  decode [0xB8, 0x34, 0x12] = .ok (.movR16Iw .ax 0x1234, []) ∧
  decode [0xA3, 0x00, 0x20] = .ok (.movMoffsAx 0x2000, []) ∧
  decode [0x33, 0xC0] = .ok (.xorR16Rm16 .ax (.reg .ax), []) ∧
  decode [0x75, 0x02] = .ok (.jne 0x02, []) ∧
  decode [0xC7, 0x06, 0x00, 0x20, 0x34, 0x12] = .ok (.movRm16Iw (.mem (.direct 0x2000)) 0x1234, []) ∧
  decode [0x8D, 0x47, 0x05] = .ok (.leaR16M .ax (.disp8 .bx 0x05), []) ∧
  decode [0xF6, 0xF3] = .ok (.divRm8 (.reg .bl), [])

/-- The 50 unpopulated first bytes of R125, and no other, stand for an instruction that raises InvalidOpcode; it is
one byte long ("before anything else is fetched").
(Which bytes are unpopulated is the spec's own decision D1, spec/92_eei_decisions.md.) -/
def Obligations.UnpopulatedBytes : Prop :=
  ∀ (op : Byte) (rest : List Byte),
    (decode (op :: rest) = .ok (.invalidOp op, rest) ↔
      op.toNat ∈ [0x0F, 0x27, 0x2F, 0x37, 0x3F, 0x98, 0x99, 0x9B, 0x9C, 0x9D, 0x9E, 0x9F] ∨
      0x60 ≤ op.toNat ∧ op.toNat ≤ 0x6F ∨
      op.toNat ∈ [0xC0, 0xC1, 0xC8, 0xC9, 0xCC, 0xCD, 0xCE, 0xCF, 0xD4, 0xD5, 0xD6, 0xD7] ∨
      0xD8 ≤ op.toNat ∧ op.toNat ≤ 0xDF ∨ op.toNat = 0xF0 ∨ op.toNat = 0xF1) ∧
    ∀ (op' : Byte) (rest' : List Byte), decode (op :: rest) = .ok (.invalidOp op', rest') → op' = op ∧ rest' = rest

/-- The invalid sub-encodings of R126, and no other ModR/M form, stand for an instruction that raises InvalidOpcode; it
ends with the displacement ("before any immediate is fetched").
(That these raise is the spec's own decision D7, spec/92_eei_decisions.md.) -/
def Obligations.InvalidSubEncodings : Prop :=
  ∀ (op : Byte) (g : BitVec 3) (rm : Rm (BitVec 3)) (rest : List Byte), rm.wf = true →
    (decode (op :: (encodeRm g rm ++ rest)) = .ok (.invalidMrm op g rm, rest) ↔
      (op = 0x8C ∨ op = 0x8E) ∧ 4 ≤ g.toNat ∨
      (op = 0x8F ∨ op = 0xC6 ∨ op = 0xC7) ∧ 1 ≤ g.toNat ∨
      (op = 0xD0 ∨ op = 0xD1 ∨ op = 0xD2 ∨ op = 0xD3) ∧ g.toNat = 6 ∨
      (op = 0xF6 ∨ op = 0xF7) ∧ g.toNat = 1 ∨
      op = 0xFE ∧ 2 ≤ g.toNat ∨
      op = 0xFF ∧ g.toNat = 7 ∨
      (op = 0x8D ∨ op = 0xC4 ∨ op = 0xC5 ∨ op = 0xFF ∧ (g.toNat = 3 ∨ g.toNat = 5)) ∧ ∃ r, rm = .reg r)

/-! ### The step -/

/-- A step runs the decoded instruction (R120): when the bytes at CS:IP are those of a well-formed instruction that is
no prefix, the step is that instruction's execution at the state with IP past it, and the end of the step. -/
def Obligations.StepRunsDecoded : Prop :=
  ∀ (s : State) (i : Instr), s.runnable = true → i.wf = true → isPrefix i = false → FetchesAs s (encode i) →
    step s = stepOutcome (exec i (entered s [] (encode i).length))

/-- Prefix bytes before the instruction: each kind of latch keeps the last one of its kind, in whatever order they
stand, and all count in the IP advance and in one step (R119, R120, spec/48_prefix_halt.md R373).
(The spec's own decisions D5 and D17, spec/92_eei_decisions.md.) -/
def Obligations.StepRunsPrefixed : Prop :=
  ∀ (s : State) (ps : List Byte) (i : Instr), s.runnable = true → i.wf = true → isPrefix i = false →
    (∀ p ∈ ps, p ∈ prefixBytes) → ps.length < 2 ^ 16 → FetchesAs s (ps ++ encode i) →
    step s = stepOutcome (exec i (entered s ps (encode i).length))

/-- The endless run of prefix bytes is the only way a step has no next state (R130): no step is refused, and a step
stops exactly when every offset of the code segment reads as a prefix byte. (That the hang is the outcome `fault
prefixHang` is the model's choice, log entry 11.)
(The hang itself is the spec's own decision D17.) -/
def Obligations.OnlyPrefixesHang : Prop :=
  ∀ s : State, (∀ r, step s ≠ .refused r) ∧ (∀ r, step s = .fault r → r = .prefixHang) ∧
    (step s = .fault .prefixHang ↔ s.Hangs)

/-- Halted and Faulted: a step changes nothing (R375, R386), and `reset()` does not leave Faulted (R386).
(`Faulted` is the spec's own decision D4, that `Halted` is terminal its decision D24.) -/
def Obligations.HaltedAndFaultedStay : Prop :=
  ∀ s : State, (s.runState = .halted → step s = .next s) ∧
    (s.runState = .faulted → step s = .next s ∧ s.resetAgain = s)

/-- The transitions of `run_state` (spec/10_state.md R38), over all instructions: only HLT halts; a fault is raised only
by an invalid encoding or a division; nothing else changes the run state, and the record changes with it only.
(`Faulted` is the spec's own decision D4.) -/
def Obligations.RunStateTransitions : Prop :=
  (∀ (i : Instr) (s t : State), s.runnable = true → exec i s = .next t →
    (t.runState = .halted ↔ i = .hlt) ∧
    (t.runState = .faulted →
      (∃ op, i = .invalidOp op) ∨ (∃ op g rm, i = .invalidMrm op g rm) ∨ (∃ rm, i = .divRm8 rm) ∨
      (∃ rm, i = .divRm16 rm) ∨ (∃ rm, i = .idivRm8 rm) ∨ (∃ rm, i = .idivRm16 rm)) ∧
    (t.runState ≠ .halted → t.runState ≠ .faulted → t.runState = s.runState) ∧
    (t.runState = .faulted ∨ t.fault = s.fault)) ∧
  ∀ s t : State, step s = .next t → t.runState ≠ .reset

/-! ### Invariants and whole-machine rules -/

/-- What holds between steps: memory in canonical form (the model's own form, log entry 15), the latches empty (R37), a
fault record exactly when faulted (R38, R39). From every state, not only those a run reaches. -/
def Obligations.StepKeepsInvariant : Prop :=
  ∀ s t : State, s.Inv → step s = .next t → t.Inv

/-- The invariant holds after construction, and `reset()` keeps it. -/
def Obligations.ResetHasInvariant : Prop :=
  State.reset.Inv ∧ ∀ s : State, s.Inv → s.resetAgain.Inv

/-- The memory map and the port map are constants of a run (spec/70_reset_and_hazards.md R415). -/
def Obligations.MapsAreConstant : Prop :=
  ∀ s t : State, step s = .next t → t.areas = s.areas ∧ t.ports = s.ports

/-- No step, whatever the instruction and whatever the port devices do, changes a byte the bus does not let be written:
ROM, and addresses no area covers (spec/20_memory.md R61, R63). -/
def Obligations.ReadOnlyBytesStay : Prop :=
  ∀ (s t : State) (a : Addr), Memory.wf s.mem = true → step s = .next t → isWritable s.areas a = false →
    t.byteAt a = s.byteAt a

/-- TF and IF have no effect (spec/10_state.md R33): two states that differ only in TF step alike, whatever bit TF is,
and keep it; the same for IF, but for the bit IF itself, which STI and CLI write. -/
def Obligations.TrapAndInterruptFlagsHaveNoEffect : Prop :=
  ∀ (s : State) (b : Bool),
    step (withTF b s) = mapNext (withTF b) (step s) ∧ ∃ b', step (withIF b s) = mapNext (withIF b') (step s)

/-- The writers of the three control flags (R31): TF none, IF only CLI and STI, DF only CLD and STD. -/
def Obligations.ControlFlagWriters : Prop :=
  ∀ (i : Instr) (s t : State), exec i s = .next t →
    t.flags.TF = s.flags.TF ∧
    t.flags.IF = (if i = .sti then true else if i = .cli then false else s.flags.IF) ∧
    t.flags.DF = (if i = .std then true else if i = .cld then false else s.flags.DF)

/-- A repeat prefix before an instruction that is no string instruction has no effect
(spec/48_prefix_halt.md R376): the step ends in the same state. -/
def Obligations.RepeatIgnoredByOthers : Prop :=
  ∀ (i : Instr) (s : State) (m : Option RepMode), isPrefix i = false → (∀ c, (c, i) ∉ strings) →
    stepOutcome (exec i (withRep m s)) = stepOutcome (exec i s)

/-! ### Exceptions -/

/-- InvalidOpcode (spec/60_exceptions.md R381), as a step: any prefixes, then an unpopulated byte or an invalid
sub-encoding. IP has advanced past every byte fetched, the record holds CS and the offset of the first byte, the run
state is Faulted, and no other register, flag or byte of memory has changed.
(The policy is the spec's own decision D4, the sub-encodings its decision D7.) -/
def Obligations.InvalidOpcodeFaults : Prop :=
  (∀ (op : Byte) (s : State), Completes (.invalidOp op) s (FaultsWith .invalidOpcode s)) ∧
  (∀ (op : Byte) (g : BitVec 3) (rm : Rm (BitVec 3)) (s : State),
    Completes (.invalidMrm op g rm) s (FaultsWith .invalidOpcode s)) ∧
  ∀ (s : State) (ps : List Byte) (i : Instr), s.runnable = true → i.wf = true →
    ((∃ op, i = .invalidOp op) ∨ ∃ op g rm, i = .invalidMrm op g rm) →
    (∀ p ∈ ps, p ∈ prefixBytes) → ps.length < 2 ^ 16 → FetchesAs s (ps ++ encode i) →
    step s = .next { s with
      ip := s.ip + BitVec.ofNat 16 (ps.length + (encode i).length)
      fault := some ⟨.invalidOpcode, s.sregs.cs, s.ip⟩
      runState := .faulted, segOverride := none, repMode := none, ip0 := 0 }

/-- DivideError (spec/60_exceptions.md R382): a zero divisor, or a quotient outside the destination's range
(spec/41_arithmetic.md R211, R212: above 255 or 65535 unsigned, outside -127..127 or -32767..32767 signed). AX, DX,
FLAGS and memory are unchanged; IP stands past the instruction.
(The policy is the spec's own decision D4, the signed range its decision D21.) -/
def Obligations.DivideErrorFaults : Prop :=
  (∀ (rm : Rm Reg8) (s : State),
    (s.readRm8 rm).toNat = 0 ∨ 255 < (s.r16 .ax).toNat / (s.readRm8 rm).toNat →
    Completes (.divRm8 rm) s (FaultsWith .divideError s)) ∧
  (∀ (rm : Rm Reg16) (s : State),
    (s.readRm16 rm).toNat = 0 ∨
      65535 < ((s.r16 .dx).toNat * 65536 + (s.r16 .ax).toNat) / (s.readRm16 rm).toNat →
    Completes (.divRm16 rm) s (FaultsWith .divideError s)) ∧
  (∀ (rm : Rm Reg8) (s : State),
    (s.readRm8 rm).toInt = 0 ∨ 127 < (s.r16 .ax).toInt.natAbs / (s.readRm8 rm).toInt.natAbs →
    Completes (.idivRm8 rm) s (FaultsWith .divideError s)) ∧
  ∀ (rm : Rm Reg16) (s : State),
    (s.readRm16 rm).toInt = 0 ∨
      32767 < (s.r16 .dx ++ s.r16 .ax).toInt.natAbs / (s.readRm16 rm).toInt.natAbs →
    Completes (.idivRm16 rm) s (FaultsWith .divideError s)

/-! ### Registers, addresses, the bus -/

/-- The aliasing law (spec/10_state.md R22, R21): an 8-bit register is a byte of its 16-bit register; writing the 16-bit
register updates both halves; writing a half keeps the other half and every other register. -/
def Obligations.AliasingLaw : Prop :=
  ∀ s : State,
    (∀ p ∈ [(Reg8.al, Reg16.ax), (.cl, .cx), (.dl, .dx), (.bl, .bx)],
      (s.r8 p.1).toNat = (s.r16 p.2).toNat % 256 ∧
      ∀ v : Byte, ((s.setR8 p.1 v).r16 p.2).toNat = (s.r16 p.2).toNat / 256 * 256 + v.toNat ∧
        RegsKeptBut [p.2] s (s.setR8 p.1 v)) ∧
    (∀ p ∈ [(Reg8.ah, Reg16.ax), (.ch, .cx), (.dh, .dx), (.bh, .bx)],
      (s.r8 p.1).toNat = (s.r16 p.2).toNat / 256 ∧
      ∀ v : Byte, ((s.setR8 p.1 v).r16 p.2).toNat = v.toNat * 256 + (s.r16 p.2).toNat % 256 ∧
        RegsKeptBut [p.2] s (s.setR8 p.1 v)) ∧
    ∀ (r : Reg16) (v : Word), (s.setR16 r v).r16 r = v ∧ RegsKeptBut [r] s (s.setR16 r v)

/-- The physical address (spec/20_memory.md R60), with the wrap of R411 and the reset vector. -/
def Obligations.PhysicalAddress : Prop :=
  (∀ seg off : Word, (phys seg off).toNat = (seg.toNat * 16 + off.toNat) % 2 ^ 20) ∧
  phys 0xFFFF 0x0010 = 0x00000 ∧ phys 0xFFFF 0x0000 = 0xFFFF0

/-- The effective address and default segment of every ModR/M memory form (spec/30_encoding.md R107), and what a
segment override does to it (spec/20_memory.md R75).
(Which accesses an override redirects is the spec's own decision D15.) -/
def Obligations.EffectiveAddress : Prop :=
  ∀ (s : State) (d8 : Byte) (d16 : Word),
    (∀ row ∈ [(RmBase.bxSi, (s.r16 .bx).toNat + (s.r16 .si).toNat, Sreg.ds),
              (.bxDi, (s.r16 .bx).toNat + (s.r16 .di).toNat, .ds),
              (.bpSi, (s.r16 .bp).toNat + (s.r16 .si).toNat, .ss),
              (.bpDi, (s.r16 .bp).toNat + (s.r16 .di).toNat, .ss),
              (.si, (s.r16 .si).toNat, .ds), (.di, (s.r16 .di).toNat, .ds),
              (.bp, (s.r16 .bp).toNat, .ss), (.bx, (s.r16 .bx).toNat, .ds)],
      (s.ea (.ind row.1)).toNat = row.2.1 % 2 ^ 16 ∧
      ((s.ea (.disp8 row.1 d8)).toNat : Int) = ((row.2.1 : Int) + d8.toInt) % 2 ^ 16 ∧
      (s.ea (.disp16 row.1 d16)).toNat = (row.2.1 + d16.toNat) % 2 ^ 16 ∧
      ∀ m ∈ [MemOp.ind row.1, .disp8 row.1 d8, .disp16 row.1 d16],
        (s.segOverride = none → s.memSeg m = s.sr row.2.2) ∧
        ∀ q, s.segOverride = some q → s.memSeg m = s.sr q) ∧
    s.ea (.direct d16) = d16 ∧
    (s.segOverride = none → s.memSeg (.direct d16) = s.sr .ds) ∧
    ∀ q, s.segOverride = some q → s.memSeg (.direct d16) = s.sr q

/-- The bus (spec/20_memory.md R62, R63): the first area in registration order that covers the address decides. A read
of an unreadable or uncovered address gives 0; a write to an unwritable or uncovered one is dropped.
(The soft events these accesses may raise are not state: log entry 17.) -/
def Obligations.FirstAreaDecides : Prop :=
  ∀ (s : State) (pa : Addr) (v : Byte), Memory.wf s.mem = true →
    (∀ before (a : MemArea) after, s.areas = before ++ a :: after →
      (∀ b ∈ before, ¬ (b.start ≤ pa.toNat ∧ pa.toNat ≤ b.stop)) → a.start ≤ pa.toNat → pa.toNat ≤ a.stop →
      s.busRead8 pa = (if a.readable then s.byteAt pa else 0) ∧
      (s.busWrite8 pa v).byteAt pa = (if a.writable then v else s.byteAt pa)) ∧
    ((∀ b ∈ s.areas, ¬ (b.start ≤ pa.toNat ∧ pa.toNat ≤ b.stop)) →
      s.busRead8 pa = 0 ∧ (s.busWrite8 pa v).byteAt pa = s.byteAt pa) ∧
    ∀ x, x ≠ pa → (s.busWrite8 pa v).busRead8 x = s.busRead8 x

/-- "A byte written to any writable region reads back unchanged until overwritten" (R90), for a region that is readable
too: after any number of writes to other addresses. -/
def Obligations.WrittenByteReadsBack : Prop :=
  ∀ (s : State) (pa : Addr) (v : Byte) (others : List (Addr × Byte)), Memory.wf s.mem = true →
    isReadable s.areas pa = true → isWritable s.areas pa = true → (∀ w ∈ others, w.1 ≠ pa) →
    (others.foldl (fun u w => u.busWrite8 w.1 w.2) (s.busWrite8 pa v)).busRead8 pa = v

/-- A word access is two independent byte accesses, low byte first, the second at the next physical address modulo
2^20 (R67, R68, R69), with no alignment constraint (R79).
(The order and the wrap are the spec's own decisions D11 and D12.) -/
def Obligations.WordAccess : Prop :=
  ∀ (s : State) (seg off : Word), Memory.wf s.mem = true →
    (s.load8 seg off = s.busRead8 (phys seg off)) ∧
    ((s.load16 seg off).toNat =
      (s.busRead8 (phys seg off)).toNat + (s.busRead8 (phys seg off + 1)).toNat * 256) ∧
    (∀ v : Byte, Stores8 s (s.store8 seg off v) (phys seg off) v) ∧
    ∀ v : Word, Stores16 s (s.store16 seg off v) (phys seg off) v ∧
      (lowByte v).toNat = v.toNat % 256 ∧ (highByte v).toNat = v.toNat / 256

/-- The FLAGS word (spec/10_state.md R29, R30): each flag at its bit, the reserved bits 0, and nothing lost between the
word and the nine flags. The bit positions are general knowledge, not the document's (R29).
(That the reserved bits are 0 is the spec's own decision D8.) -/
def Obligations.FlagsWord : Prop :=
  ∀ f : Flags,
    (∀ p ∈ [(11, f.OF), (10, f.DF), (9, f.IF), (8, f.TF), (7, f.SF), (6, f.ZF), (4, f.AF), (2, f.PF), (0, f.CF)],
      f.toWord.getLsbD p.1 = p.2) ∧
    (∀ n ∈ [1, 3, 5, 12, 13, 14, 15], f.toWord.getLsbD n = false) ∧ Flags.ofWord f.toWord = f

/-! ### Arithmetic and logic -/

/-- The ten forms of the eight two-operand ALU instructions (spec/41_arithmetic.md R200), each with its encoding, its
destination and source: every one completes, with the result and the flags of its rule (R201 to R205,
spec/42_logic.md R250 to R252, spec/10_state.md R42 to R44), CMP writing FLAGS only, and nothing else changed. -/
def Obligations.AluByteForms : Prop :=
  ∀ (k : Alu) (s : State), Memory.wf s.mem = true →
    (∀ rm r, Completes (aluRm8R8 k rm r) s (AluEffect8 k rm (s.r8 r) s)) ∧
    (∀ r rm, Completes (aluR8Rm8 k r rm) s (AluEffect8 k (.reg r) (s.readRm8 rm) s)) ∧
    (∀ ib, Completes (aluAlIb k ib) s (AluEffect8 k (.reg .al) ib s)) ∧
    (∀ rm ib, Completes (aluRm8Ib k rm ib) s (AluEffect8 k rm ib s)) ∧
    (∀ rm ib, Completes (aluRm8IbAlt k rm ib) s (AluEffect8 k rm ib s))

/-- The word forms: `83 /n` sign-extends its byte (R114). -/
def Obligations.AluWordForms : Prop :=
  ∀ (k : Alu) (s : State), Memory.wf s.mem = true →
    (∀ rm r, Completes (aluRm16R16 k rm r) s (AluEffect16 k rm (s.r16 r) s)) ∧
    (∀ r rm, Completes (aluR16Rm16 k r rm) s (AluEffect16 k (.reg r) (s.readRm16 rm) s)) ∧
    (∀ iw, Completes (aluAxIw k iw) s (AluEffect16 k (.reg .ax) iw s)) ∧
    (∀ rm iw, Completes (aluRm16Iw k rm iw) s (AluEffect16 k rm iw s)) ∧
    (∀ rm ib, Completes (aluRm16Ib k rm ib) s (AluEffect16 k rm (BitVec.ofInt 16 ib.toInt) s))

/-- The encodings of the ten forms (R200): base opcode and group-1 sub-opcode.
(All eight sub-opcodes under each byte: the spec's own decision D20.) -/
def Obligations.AluEncodings : Prop :=
  ∀ (k : Alu) (rest : List Byte),
    (∀ (rm : Rm Reg8) (r : Reg8), rm.wf = true →
      decode (aluBase k :: (encodeRm8 r.num rm ++ rest)) = .ok (aluRm8R8 k rm r, rest) ∧
      decode ((aluBase k + 2) :: (encodeRm8 r.num rm ++ rest)) = .ok (aluR8Rm8 k r rm, rest)) ∧
    (∀ (rm : Rm Reg16) (r : Reg16), rm.wf = true →
      decode ((aluBase k + 1) :: (encodeRm16 r.num rm ++ rest)) = .ok (aluRm16R16 k rm r, rest) ∧
      decode ((aluBase k + 3) :: (encodeRm16 r.num rm ++ rest)) = .ok (aluR16Rm16 k r rm, rest)) ∧
    (∀ b c : Byte,
      decode ((aluBase k + 4) :: b :: rest) = .ok (aluAlIb k b, rest) ∧
      decode ((aluBase k + 5) :: b :: c :: rest) = .ok (aluAxIw k (c ++ b), rest)) ∧
    (∀ (rm : Rm Reg8) (b : Byte), rm.wf = true →
      decode (0x80 :: (encodeRm8 (aluSub k) rm ++ b :: rest)) = .ok (aluRm8Ib k rm b, rest) ∧
      decode (0x82 :: (encodeRm8 (aluSub k) rm ++ b :: rest)) = .ok (aluRm8IbAlt k rm b, rest)) ∧
    ∀ (rm : Rm Reg16) (b c : Byte), rm.wf = true →
      decode (0x81 :: (encodeRm16 (aluSub k) rm ++ b :: c :: rest)) = .ok (aluRm16Iw k rm (c ++ b), rest) ∧
      decode (0x83 :: (encodeRm16 (aluSub k) rm ++ b :: rest)) = .ok (aluRm16Ib k rm b, rest)

/-- What OF and AF mean (R31): the flag computations of an addition and of a subtraction, with carry or borrow in, set
OF exactly when the signed result cannot be represented, and AF exactly when there is a carry or borrow out of bit 3.
(The spec derives these meanings from the formulas of R42 and R43.) -/
def Obligations.OverflowAndHalfCarryMeaning : Prop :=
  ∀ w ∈ [8, 16], ∀ (a b : BitVec w) (c : Bool) (f : Flags),
    (addFlags a b c f).2.OF = decide (¬ (-(2 ^ (w - 1) : Int) ≤ a.toInt + b.toInt + c.toNat ∧
      a.toInt + b.toInt + c.toNat < 2 ^ (w - 1))) ∧
    (addFlags a b c f).2.AF = decide (16 ≤ a.toNat % 16 + b.toNat % 16 + c.toNat) ∧
    (subFlags a b c f).2.OF = decide (¬ (-(2 ^ (w - 1) : Int) ≤ a.toInt - b.toInt - c.toNat ∧
      a.toInt - b.toInt - c.toNat < 2 ^ (w - 1))) ∧
    (subFlags a b c f).2.AF = decide (a.toNat % 16 < b.toNat % 16 + c.toNat)

/-- INC and DEC (R206, R207, spec/10_state.md R45): CF is unchanged. -/
def Obligations.IncAndDec : Prop :=
  ∀ s : State, Memory.wf s.mem = true →
    (∀ r, Completes (.incR16 r) s fun t => ∃ v, IncRule (s.r16 r) s.flags v t.flags ∧ Writes16 s t (.reg r) v ∧
      OrdinaryKept s t) ∧
    (∀ rm, Completes (.incRm8 rm) s fun t => ∃ v, IncRule (s.readRm8 rm) s.flags v t.flags ∧ Writes8 s t rm v ∧
      OrdinaryKept s t) ∧
    (∀ rm, Completes (.incRm16 rm) s fun t => ∃ v, IncRule (s.readRm16 rm) s.flags v t.flags ∧ Writes16 s t rm v ∧
      OrdinaryKept s t) ∧
    (∀ r, Completes (.decR16 r) s fun t => ∃ v, DecRule (s.r16 r) s.flags v t.flags ∧ Writes16 s t (.reg r) v ∧
      OrdinaryKept s t) ∧
    (∀ rm, Completes (.decRm8 rm) s fun t => ∃ v, DecRule (s.readRm8 rm) s.flags v t.flags ∧ Writes8 s t rm v ∧
      OrdinaryKept s t) ∧
    (∀ rm, Completes (.decRm16 rm) s fun t => ∃ v, DecRule (s.readRm16 rm) s.flags v t.flags ∧ Writes16 s t rm v ∧
      OrdinaryKept s t)

/-- NEG (R208): the subtraction from 0; so CF iff the operand is not 0, OF iff it is the most negative number, AF iff
its low four bits are not 0. -/
def Obligations.NegSubtractsFromZero : Prop :=
  ∀ s : State, Memory.wf s.mem = true →
    (∀ rm, Completes (.negRm8 rm) s fun t =>
      ∃ v, SubRule 0 (s.readRm8 rm) false s.flags v t.flags ∧ Writes8 s t rm v ∧ OrdinaryKept s t ∧
        t.flags.CF = decide ((s.readRm8 rm).toNat ≠ 0) ∧ t.flags.OF = decide ((s.readRm8 rm).toNat = 0x80) ∧
        t.flags.AF = decide ((s.readRm8 rm).toNat % 16 ≠ 0)) ∧
    (∀ rm, Completes (.negRm16 rm) s fun t =>
      ∃ v, SubRule 0 (s.readRm16 rm) false s.flags v t.flags ∧ Writes16 s t rm v ∧ OrdinaryKept s t ∧
        t.flags.CF = decide ((s.readRm16 rm).toNat ≠ 0) ∧ t.flags.OF = decide ((s.readRm16 rm).toNat = 0x8000) ∧
        t.flags.AF = decide ((s.readRm16 rm).toNat % 16 ≠ 0))

/-- MUL and IMUL (R209, R210): the exact product in AX or DX:AX; CF = OF = 1 exactly when the upper half carries
information (unsigned: it is not 0; signed: the product is not the sign extension of its lower half). SF, ZF, AF, PF are
free; every other register, TF, IF, DF and memory are unchanged.
(That an undefined flag is free is the spec's own decision D9.) -/
def Obligations.MultiplyExactProduct : Prop :=
  ∀ s : State,
    (∀ rm, Completes (.mulRm8 rm) s fun t =>
      (t.r16 .ax).toNat = (s.r8 .al).toNat * (s.readRm8 rm).toNat ∧
      t.flags.CF = decide (256 ≤ (s.r8 .al).toNat * (s.readRm8 rm).toNat) ∧ t.flags.OF = t.flags.CF ∧
      ControlKept s.flags t.flags ∧ RegsKeptBut [.ax] s t ∧ MemKept s t ∧ OrdinaryKept s t) ∧
    (∀ rm, Completes (.mulRm16 rm) s fun t =>
      (t.r16 .dx).toNat * 65536 + (t.r16 .ax).toNat = (s.r16 .ax).toNat * (s.readRm16 rm).toNat ∧
      t.flags.CF = decide (65536 ≤ (s.r16 .ax).toNat * (s.readRm16 rm).toNat) ∧ t.flags.OF = t.flags.CF ∧
      ControlKept s.flags t.flags ∧ RegsKeptBut [.ax, .dx] s t ∧ MemKept s t ∧ OrdinaryKept s t) ∧
    (∀ rm, Completes (.imulRm8 rm) s fun t =>
      (t.r16 .ax).toInt = (s.r8 .al).toInt * (s.readRm8 rm).toInt ∧
      t.flags.CF = decide ((s.r8 .al).toInt * (s.readRm8 rm).toInt ≠ (t.r8 .al).toInt) ∧ t.flags.OF = t.flags.CF ∧
      ControlKept s.flags t.flags ∧ RegsKeptBut [.ax] s t ∧ MemKept s t ∧ OrdinaryKept s t) ∧
    (∀ rm, Completes (.imulRm16 rm) s fun t =>
      (t.r16 .dx ++ t.r16 .ax).toInt = (s.r16 .ax).toInt * (s.readRm16 rm).toInt ∧
      t.flags.CF = decide ((s.r16 .ax).toInt * (s.readRm16 rm).toInt ≠ (t.r16 .ax).toInt) ∧
      t.flags.OF = t.flags.CF ∧
      ControlKept s.flags t.flags ∧ RegsKeptBut [.ax, .dx] s t ∧ MemKept s t ∧ OrdinaryKept s t)

/-- DIV and IDIV where they complete (R211, R212, R213 point 5): the divisor is not 0 and the quotient is in range;
then `n = q * d + rem` with `0 ≤ rem < d`, signed with the remainder of the dividend's sign and smaller than the divisor.
The six status flags are free; every other register, TF, IF, DF and memory are unchanged.
(The signed range is the spec's own decision D21, free flags its decision D9.) -/
def Obligations.DivideQuotientRemainder : Prop :=
  ∀ s : State,
    (∀ rm, (s.readRm8 rm).toNat ≠ 0 → (s.r16 .ax).toNat / (s.readRm8 rm).toNat ≤ 255 →
      Completes (.divRm8 rm) s fun t =>
        (s.r16 .ax).toNat = (t.r8 .al).toNat * (s.readRm8 rm).toNat + (t.r8 .ah).toNat ∧
        (t.r8 .ah).toNat < (s.readRm8 rm).toNat ∧
        ControlKept s.flags t.flags ∧ RegsKeptBut [.ax] s t ∧ MemKept s t ∧ OrdinaryKept s t) ∧
    (∀ rm, (s.readRm16 rm).toNat ≠ 0 →
      ((s.r16 .dx).toNat * 65536 + (s.r16 .ax).toNat) / (s.readRm16 rm).toNat ≤ 65535 →
      Completes (.divRm16 rm) s fun t =>
        (s.r16 .dx).toNat * 65536 + (s.r16 .ax).toNat =
          (t.r16 .ax).toNat * (s.readRm16 rm).toNat + (t.r16 .dx).toNat ∧
        (t.r16 .dx).toNat < (s.readRm16 rm).toNat ∧
        ControlKept s.flags t.flags ∧ RegsKeptBut [.ax, .dx] s t ∧ MemKept s t ∧ OrdinaryKept s t) ∧
    (∀ rm, (s.readRm8 rm).toInt ≠ 0 → (s.r16 .ax).toInt.natAbs / (s.readRm8 rm).toInt.natAbs ≤ 127 →
      Completes (.idivRm8 rm) s fun t =>
        (s.r16 .ax).toInt = (t.r8 .al).toInt * (s.readRm8 rm).toInt + (t.r8 .ah).toInt ∧
        (t.r8 .ah).toInt.natAbs < (s.readRm8 rm).toInt.natAbs ∧
        ((t.r8 .ah).toInt = 0 ∨ ((t.r8 .ah).toInt < 0 ↔ (s.r16 .ax).toInt < 0)) ∧
        ControlKept s.flags t.flags ∧ RegsKeptBut [.ax] s t ∧ MemKept s t ∧ OrdinaryKept s t) ∧
    (∀ rm, (s.readRm16 rm).toInt ≠ 0 →
      (s.r16 .dx ++ s.r16 .ax).toInt.natAbs / (s.readRm16 rm).toInt.natAbs ≤ 32767 →
      Completes (.idivRm16 rm) s fun t =>
        (s.r16 .dx ++ s.r16 .ax).toInt = (t.r16 .ax).toInt * (s.readRm16 rm).toInt + (t.r16 .dx).toInt ∧
        (t.r16 .dx).toInt.natAbs < (s.readRm16 rm).toInt.natAbs ∧
        ((t.r16 .dx).toInt = 0 ∨ ((t.r16 .dx).toInt < 0 ↔ (s.r16 .dx ++ s.r16 .ax).toInt < 0)) ∧
        ControlKept s.flags t.flags ∧ RegsKeptBut [.ax, .dx] s t ∧ MemKept s t ∧ OrdinaryKept s t)

/-- NOT (spec/42_logic.md R253): every bit inverted, no flag changed. TEST in its six forms (R254): the flags of the
bitwise and, nothing else written. -/
def Obligations.NotAndTest : Prop :=
  ∀ s : State, Memory.wf s.mem = true →
    (∀ rm, Completes (.notRm8 rm) s fun t =>
      ∃ v : Byte, v.toNat = 255 - (s.readRm8 rm).toNat ∧ Writes8 s t rm v ∧ t.flags = s.flags ∧ OrdinaryKept s t) ∧
    (∀ rm, Completes (.notRm16 rm) s fun t =>
      ∃ v : Word, v.toNat = 65535 - (s.readRm16 rm).toNat ∧ Writes16 s t rm v ∧ t.flags = s.flags ∧ OrdinaryKept s t) ∧
    (∀ rm r, Completes (.testRm8R8 rm r) s (TestEffect (s.readRm8 rm) (s.r8 r) s)) ∧
    (∀ rm r, Completes (.testRm16R16 rm r) s (TestEffect (s.readRm16 rm) (s.r16 r) s)) ∧
    (∀ ib, Completes (.testAlIb ib) s (TestEffect (s.r8 .al) ib s)) ∧
    (∀ iw, Completes (.testAxIw iw) s (TestEffect (s.r16 .ax) iw s)) ∧
    (∀ rm ib, Completes (.testRm8Ib rm ib) s (TestEffect (s.readRm8 rm) ib s)) ∧
    (∀ rm iw, Completes (.testRm16Iw rm iw) s (TestEffect (s.readRm16 rm) iw s))

/-! ### Shifts and rotates -/

/-- The seven shifts and rotates of a byte (spec/43_shift_rotate.md R270 to R278), by 1 and by CL (all eight bits, 0 to
255): the value and CF of the closed form, OF for a count of 1, the other flags by R271, nothing else changed.
(The unmasked count is the spec's own decision D22, free flags its decision D9.) -/
def Obligations.ShiftBytes : Prop :=
  ∀ (k : Shift) (rm : Rm Reg8) (s : State), Memory.wf s.mem = true →
    Completes (shiftRm8One k rm) s (ShiftEffect8 k rm 1 s) ∧
    Completes (shiftRm8Cl k rm) s (ShiftEffect8 k rm (s.r8 .cl).toNat s)

/-- The seven shifts and rotates of a word.
(The unmasked count is the spec's own decision D22, free flags its decision D9.) -/
def Obligations.ShiftWords : Prop :=
  ∀ (k : Shift) (rm : Rm Reg16) (s : State), Memory.wf s.mem = true →
    Completes (shiftRm16One k rm) s (ShiftEffect16 k rm 1 s) ∧
    Completes (shiftRm16Cl k rm) s (ShiftEffect16 k rm (s.r8 .cl).toNat s)

/-! ### Data movement -/

/-- Every MOV to a register, a segment register or memory (spec/40_data_movement.md R151 to R157, R160): the destination
holds the source's value, no flag and nothing else is changed (R150).
(That MOV CS is allowed is the spec's own decision D18.) -/
def Obligations.MovCopiesSource : Prop :=
  ∀ s : State, Memory.wf s.mem = true →
    (∀ rm r, Completes (.movRm8R8 rm r) s fun t =>
      Writes8 s t rm (s.r8 r) ∧ t.flags = s.flags ∧ OrdinaryKept s t) ∧
    (∀ rm r, Completes (.movRm16R16 rm r) s fun t =>
      Writes16 s t rm (s.r16 r) ∧ t.flags = s.flags ∧ OrdinaryKept s t) ∧
    (∀ r rm, Completes (.movR8Rm8 r rm) s fun t =>
      Writes8 s t (.reg r) (s.readRm8 rm) ∧ t.flags = s.flags ∧ OrdinaryKept s t) ∧
    (∀ r rm, Completes (.movR16Rm16 r rm) s fun t =>
      Writes16 s t (.reg r) (s.readRm16 rm) ∧ t.flags = s.flags ∧ OrdinaryKept s t) ∧
    (∀ rm ib, Completes (.movRm8Ib rm ib) s fun t => Writes8 s t rm ib ∧ t.flags = s.flags ∧ OrdinaryKept s t) ∧
    (∀ rm iw, Completes (.movRm16Iw rm iw) s fun t => Writes16 s t rm iw ∧ t.flags = s.flags ∧ OrdinaryKept s t) ∧
    (∀ r ib, Completes (.movR8Ib r ib) s fun t => Writes8 s t (.reg r) ib ∧ t.flags = s.flags ∧ OrdinaryKept s t) ∧
    (∀ r iw, Completes (.movR16Iw r iw) s fun t => Writes16 s t (.reg r) iw ∧ t.flags = s.flags ∧ OrdinaryKept s t) ∧
    (∀ rm q, Completes (.movRm16Sreg rm q) s fun t =>
      Writes16 s t rm (s.sr q) ∧ t.flags = s.flags ∧ OrdinaryKept s t) ∧
    (∀ q rm, Completes (.movSregRm16 q rm) s fun t =>
      t.sr q = s.readRm16 rm ∧ (∀ q', q' ≠ q → t.sr q' = s.sr q') ∧ RegsKept s t ∧ MemKept s t ∧
      t.flags = s.flags ∧ t.ip = s.ip ∧ QuietKept s t)

/-- MOV between the accumulator and a direct offset (R155, R160): at `DataSeg(DS)`, so an override applies. -/
def Obligations.MovDirectOffset : Prop :=
  ∀ (s : State) (off : Word), Memory.wf s.mem = true →
    let seg := match s.segOverride with
      | some q => s.sr q
      | none => s.sr .ds
    Completes (.movAlMoffs off) s (fun t =>
      Writes8 s t (.reg .al) (s.busRead8 (phys seg off)) ∧ t.flags = s.flags ∧ OrdinaryKept s t) ∧
    Completes (.movAxMoffs off) s (fun t =>
      (t.r16 .ax).toNat = (s.busRead8 (phys seg off)).toNat + (s.busRead8 (phys seg off + 1)).toNat * 256 ∧
      RegsKeptBut [.ax] s t ∧ MemKept s t ∧ t.flags = s.flags ∧ OrdinaryKept s t) ∧
    Completes (.movMoffsAl off) s (fun t =>
      Stores8 s t (phys seg off) (s.r8 .al) ∧ RegsKept s t ∧ t.flags = s.flags ∧ OrdinaryKept s t) ∧
    Completes (.movMoffsAx off) s (fun t =>
      Stores16 s t (phys seg off) (s.r16 .ax) ∧ RegsKept s t ∧ t.flags = s.flags ∧ OrdinaryKept s t)

/-- XCHG (R158, R159): both operands are read, then both written; with the same register twice nothing changes; a
register operand gets the memory's old value even where the memory cannot be written. -/
def Obligations.XchgSwapsOperands : Prop :=
  ∀ s : State, Memory.wf s.mem = true →
    (∀ p r, Completes (.xchgRm8R8 (.reg p) r) s fun t =>
      t.r8 p = s.r8 r ∧ t.r8 r = s.r8 p ∧ (∀ q, q ≠ p → q ≠ r → t.r8 q = s.r8 q) ∧
      (∀ q ∈ [Reg16.sp, .bp, .si, .di], t.r16 q = s.r16 q) ∧ MemKept s t ∧ t.flags = s.flags ∧ OrdinaryKept s t) ∧
    (∀ p r, Completes (.xchgRm16R16 (.reg p) r) s fun t =>
      t.r16 p = s.r16 r ∧ t.r16 r = s.r16 p ∧ RegsKeptBut [p, r] s t ∧ MemKept s t ∧ t.flags = s.flags ∧
      OrdinaryKept s t) ∧
    (∀ m r, Completes (.xchgRm8R8 (.mem m) r) s fun t =>
      t.r8 r = s.readRm8 (.mem m) ∧ (∀ q, q ≠ r → t.r8 q = s.r8 q) ∧
      (∀ q ∈ [Reg16.sp, .bp, .si, .di], t.r16 q = s.r16 q) ∧ Stores8 s t (s.memAddr m) (s.r8 r) ∧
      t.flags = s.flags ∧ OrdinaryKept s t) ∧
    (∀ m r, Completes (.xchgRm16R16 (.mem m) r) s fun t =>
      t.r16 r = s.readRm16 (.mem m) ∧ RegsKeptBut [r] s t ∧ Stores16 s t (s.memAddr m) (s.r16 r) ∧
      t.flags = s.flags ∧ OrdinaryKept s t) ∧
    (∀ r, Completes (.xchgAxR16 r) s fun t =>
      t.r16 .ax = s.r16 r ∧ t.r16 r = s.r16 .ax ∧ RegsKeptBut [.ax, r] s t ∧ MemKept s t ∧ t.flags = s.flags ∧
      OrdinaryKept s t)

/-- LEA (R161): the effective address itself; no memory is accessed and no segment or override enters. -/
def Obligations.LeaGivesEffectiveAddress : Prop :=
  ∀ (r : Reg16) (m : MemOp) (s : State) (o : Option Sreg),
    Completes (.leaR16M r m) (withOverride o s) fun t =>
      Writes16 s t (.reg r) (s.ea m) ∧ t.flags = s.flags ∧ t.ip = s.ip ∧ SregsKept s t ∧
      QuietKept (withOverride o s) t

/-- LDS and LES (R169, R170): the offset word at the operand, the segment word at offset EA + 2 (modulo 2^16), both read
before either register is written.
(That LDS and LES exist is the spec's own decision D2.) -/
def Obligations.LoadFarPointer : Prop :=
  ∀ (r : Reg16) (m : MemOp) (s : State),
    (∀ p ∈ [(Instr.ldsR16M r m, Sreg.ds), (Instr.lesR16M r m, Sreg.es)],
      Completes p.1 s fun t =>
        t.r16 r = s.memRead16 (s.memAddr m) ∧
        t.sr p.2 = s.memRead16 (phys (s.memSeg m) (BitVec.ofNat 16 ((s.ea m).toNat + 2))) ∧
        RegsKeptBut [r] s t ∧ (∀ q, q ≠ p.2 → t.sr q = s.sr q) ∧ MemKept s t ∧ t.flags = s.flags ∧ t.ip = s.ip ∧
        QuietKept s t)

/-- PUSH in its six forms (R162, R163, R164, R168): the source is read before SP changes, so PUSH SP stores the old SP;
the stack is at SS whatever the override.
(What PUSH SP stores is the spec's own decision D19.) -/
def Obligations.PushStoresBelowStackTop : Prop :=
  ∀ s : State, Memory.wf s.mem = true →
    (∀ r, Completes (.pushR16 r) s fun t => Pushes s t (s.r16 r) ∧ t.flags = s.flags ∧ OrdinaryKept s t) ∧
    (∀ rm, Completes (.pushRm16 rm) s fun t => Pushes s t (s.readRm16 rm) ∧ t.flags = s.flags ∧ OrdinaryKept s t) ∧
    (∀ p ∈ [(Instr.pushEs, Sreg.es), (.pushCs, .cs), (.pushSs, .ss), (.pushDs, .ds)],
      Completes p.1 s fun t => Pushes s t (s.sr p.2) ∧ t.flags = s.flags ∧ OrdinaryKept s t)

/-- POP in its five forms (R165, R166, R167, R168): the word at SS:SP, SP two higher (modulo 2^16), then the destination
is written, so POP SP leaves SP equal to the word and POP SS reads through the old SS.
(What POP SP leaves is the spec's own decision D19.) -/
def Obligations.PopTakesStackTop : Prop :=
  ∀ s : State, Memory.wf s.mem = true →
    (∀ r, Completes (.popR16 r) s fun t =>
      t.r16 r = topWord s ∧ (r ≠ .sp → SpRaised s t 2) ∧ RegsKeptBut [r, .sp] s t ∧ MemKept s t ∧
      t.flags = s.flags ∧ OrdinaryKept s t) ∧
    (∀ r, Completes (.popRm16 (.reg r)) s fun t =>
      t.r16 r = topWord s ∧ (r ≠ .sp → SpRaised s t 2) ∧ RegsKeptBut [r, .sp] s t ∧ MemKept s t ∧
      t.flags = s.flags ∧ OrdinaryKept s t) ∧
    (∀ m, Completes (.popRm16 (.mem m)) s fun t =>
      Stores16 s t (s.memAddr m) (topWord s) ∧ SpRaised s t 2 ∧ RegsKeptBut [.sp] s t ∧ t.flags = s.flags ∧
      OrdinaryKept s t) ∧
    (∀ p ∈ [(Instr.popEs, Sreg.es), (.popSs, .ss), (.popDs, .ds)],
      Completes p.1 s fun t =>
        t.sr p.2 = topWord s ∧ (∀ q, q ≠ p.2 → t.sr q = s.sr q) ∧ SpRaised s t 2 ∧ RegsKeptBut [.sp] s t ∧
        MemKept s t ∧ t.flags = s.flags ∧ t.ip = s.ip ∧ QuietKept s t)

/-- The round-trip laws (R171): PUSH r; POP r leaves r and SP as they were (SP included among the r), provided the two
stack bytes are readable and writable; XCHG twice leaves both registers as they were.
(For SP this rests on the spec's own decision D19.) -/
def Obligations.RoundTrips : Prop :=
  (∀ (r : Reg16) (s : State), Memory.wf s.mem = true →
    (∀ a ∈ [phys (s.sr .ss) (s.r16 .sp - 2), phys (s.sr .ss) (s.r16 .sp - 2) + 1],
      isReadable s.areas a = true ∧ isWritable s.areas a = true) →
    ∃ t u, exec (.pushR16 r) s = .next t ∧ exec (.popR16 r) t = .next u ∧ RegsKept s u) ∧
  (∀ (p r : Reg8) (s : State),
    ∃ t, exec (.xchgRm8R8 (.reg p) r) s = .next t ∧ exec (.xchgRm8R8 (.reg p) r) t = .next s) ∧
  (∀ (p r : Reg16) (s : State),
    ∃ t, exec (.xchgRm16R16 (.reg p) r) s = .next t ∧ exec (.xchgRm16R16 (.reg p) r) t = .next s) ∧
  (∀ (r : Reg16) (s : State), ∃ t, exec (.xchgAxR16 r) s = .next t ∧ exec (.xchgAxR16 r) t = .next s)

/-! ### Control flow -/

/-- The sixteen conditional jumps (spec/44_control_flow.md R291, R292 to R307): each at its opcode, on its condition, to
the next instruction's offset plus the signed displacement, modulo 2^16; no flag and nothing else changed; and each odd
condition is the negation of the even one before it. -/
def Obligations.ConditionalJumps : Prop :=
  (∀ row ∈ jumps, ∀ (cb : Byte) (s : State) (rest : List Byte),
    decode (BitVec.ofNat 8 (0x70 + row.1) :: cb :: rest) = .ok (row.2.1 cb, rest) ∧
    Completes (row.2.1 cb) s fun t =>
      t.flags = s.flags ∧ DataKept s t ∧
      (t.ip.toNat : Int) = if row.2.2 s.flags then ((s.ip.toNat : Int) + cb.toInt) % 65536 else (s.ip.toNat : Int)) ∧
  ∀ row ∈ jumps, ∀ row' ∈ jumps, row'.1 = row.1 + 1 → row.1 % 2 = 0 → ∀ f, row'.2.2 f = !row.2.2 f

/-- The five unconditional jumps (R308 to R312). -/
def Obligations.JumpTargets : Prop :=
  ∀ s : State,
    (∀ cb, Completes (.jmpShort cb) s fun t =>
      (t.ip.toNat : Int) = ((s.ip.toNat : Int) + cb.toInt) % 65536 ∧ t.flags = s.flags ∧ DataKept s t) ∧
    (∀ cw, Completes (.jmpNear cw) s fun t => JumpsTo s t (s.ip.toNat + cw.toNat)) ∧
    (∀ off seg, Completes (.jmpFar off seg) s fun t =>
      t.ip = off ∧ t.sr .cs = seg ∧ (∀ q, q ≠ .cs → t.sr q = s.sr q) ∧ RegsKept s t ∧ MemKept s t ∧
      t.flags = s.flags ∧ QuietKept s t) ∧
    (∀ rm, Completes (.jmpRm16 rm) s fun t => JumpsTo s t (s.readRm16 rm).toNat) ∧
    (∀ m, Completes (.jmpM1616 m) s fun t =>
      t.ip = s.memRead16 (s.memAddr m) ∧
      t.sr .cs = s.memRead16 (phys (s.memSeg m) (BitVec.ofNat 16 ((s.ea m).toNat + 2))) ∧
      (∀ q, q ≠ .cs → t.sr q = s.sr q) ∧ RegsKept s t ∧ MemKept s t ∧ t.flags = s.flags ∧ QuietKept s t)

/-- The four calls (R313 to R316): a near call pushes IP (the next instruction's offset), a far call CS and then IP; the
target is read before the pushes.
(The indirect calls are the spec's own decision D23.) -/
def Obligations.CallsPushReturnAddress : Prop :=
  ∀ s : State, Memory.wf s.mem = true →
    (∀ cw, Completes (.callNear cw) s fun t =>
      Pushes s t s.ip ∧ t.ip.toNat = (s.ip.toNat + cw.toNat) % 2 ^ 16 ∧ SregsKept s t ∧ t.flags = s.flags ∧
      QuietKept s t) ∧
    (∀ rm, Completes (.callRm16 rm) s fun t =>
      Pushes s t s.ip ∧ t.ip = s.readRm16 rm ∧ SregsKept s t ∧ t.flags = s.flags ∧ QuietKept s t) ∧
    (∀ off seg, Completes (.callFar off seg) s fun t =>
      PushesTwo s t (s.sr .cs) s.ip ∧ t.ip = off ∧ t.sr .cs = seg ∧ (∀ q, q ≠ .cs → t.sr q = s.sr q) ∧
      t.flags = s.flags ∧ QuietKept s t) ∧
    (∀ m, Completes (.callM1616 m) s fun t =>
      PushesTwo s t (s.sr .cs) s.ip ∧ t.ip = s.memRead16 (s.memAddr m) ∧
      t.sr .cs = s.memRead16 (phys (s.memSeg m) (BitVec.ofNat 16 ((s.ea m).toNat + 2))) ∧
      (∀ q, q ≠ .cs → t.sr q = s.sr q) ∧ t.flags = s.flags ∧ QuietKept s t)

/-- The four returns (R317 to R320): IP, and in a far return CS from the next word, come off the stack; the immediate is
added to SP after the pops. -/
def Obligations.ReturnsPopAddress : Prop :=
  ∀ (s : State) (iw : Word),
    let second := s.memRead16 (phys (s.sr .ss) (BitVec.ofNat 16 ((s.r16 .sp).toNat + 2)))
    (∀ p ∈ [(Instr.ret, 2), (.retIw iw, 2 + iw.toNat)],
      Completes p.1 s fun t =>
        t.ip = topWord s ∧ SpRaised s t p.2 ∧ SregsKept s t ∧ RegsKeptBut [.sp] s t ∧ MemKept s t ∧
        t.flags = s.flags ∧ QuietKept s t) ∧
    (∀ p ∈ [(Instr.retf, 4), (.retfIw iw, 4 + iw.toNat)],
      Completes p.1 s fun t =>
        t.ip = topWord s ∧ t.sr .cs = second ∧ SpRaised s t p.2 ∧ (∀ q, q ≠ .cs → t.sr q = s.sr q) ∧
        RegsKeptBut [.sp] s t ∧ MemKept s t ∧ t.flags = s.flags ∧ QuietKept s t)

/-- The three loop instructions and JCXZ (R321 to R324): CX is decremented modulo 2^16 with no flag changed, then the
jump is taken if CX is not 0 (and ZF is as asked); JCXZ jumps if CX is 0 and leaves it. -/
def Obligations.LoopsCountDown : Prop :=
  ∀ (s : State) (cb : Byte),
    (∀ p ∈ [(Instr.loop cb, true), (.loope cb, s.flags.ZF), (.loopne cb, !s.flags.ZF)],
      Completes p.1 s fun t =>
        ((t.r16 .cx).toNat : Int) = ((s.r16 .cx).toNat - 1 : Int) % 2 ^ 16 ∧
        (t.ip.toNat : Int) =
          (if (t.r16 .cx).toNat ≠ 0 ∧ p.2 = true then ((s.ip.toNat : Int) + cb.toInt) % 65536 else (s.ip.toNat : Int)) ∧
        RegsKeptBut [.cx] s t ∧ SregsKept s t ∧ MemKept s t ∧ t.flags = s.flags ∧ QuietKept s t) ∧
    Completes (.jcxz cb) s fun t =>
      (t.ip.toNat : Int) =
        (if (s.r16 .cx).toNat = 0 then ((s.ip.toNat : Int) + cb.toInt) % 65536 else (s.ip.toNat : Int)) ∧
      t.flags = s.flags ∧ DataKept s t

/-! ### Flag instructions, prefixes, HLT -/

/-- The seven flag instructions (spec/45_flag_manipulation.md R330 to R336), each at its opcode: one bit of FLAGS is
written, every other bit and everything else is unchanged. CMC twice is the identity. -/
def Obligations.FlagInstructions : Prop :=
  ∀ (s : State) (rest : List Byte),
    (∀ row ∈ [(0xF8, Instr.clc, { s.flags with CF := false }), (0xF9, .stc, { s.flags with CF := true }),
              (0xFA, .cli, { s.flags with IF := false }), (0xFB, .sti, { s.flags with IF := true }),
              (0xFC, .cld, { s.flags with DF := false }), (0xFD, .std, { s.flags with DF := true }),
              (0xF5, .cmc, { s.flags with CF := !s.flags.CF })],
      decode (row.1 :: rest) = .ok (row.2.1, rest) ∧
      Completes row.2.1 s fun t => t.flags = row.2.2 ∧ t.ip = s.ip ∧ DataKept s t) ∧
    ∃ t, exec .cmc s = .next t ∧ exec .cmc t = .next s

/-- The six prefixes (spec/48_prefix_halt.md R370 to R372), each at its byte: the latch is set, nothing else changes.
HLT (R374): the run state becomes Halted; no register, flag or byte of memory changes. -/
def Obligations.PrefixesAndHalt : Prop :=
  ∀ (s : State) (rest : List Byte),
    (∀ row ∈ [(0x26, Instr.prefixEs, Sreg.es), (0x2E, .prefixCs, .cs), (0x36, .prefixSs, .ss), (0x3E, .prefixDs, .ds)],
      decode (row.1 :: rest) = .ok (row.2.1, rest) ∧ isPrefix row.2.1 = true ∧
      exec row.2.1 s = .next (withOverride (some row.2.2) s)) ∧
    (∀ row ∈ [(0xF2, Instr.prefixRepne, RepMode.repne), (0xF3, .prefixRep, .rep)],
      decode (row.1 :: rest) = .ok (row.2.1, rest) ∧ isPrefix row.2.1 = true ∧
      exec row.2.1 s = .next (withRep (some row.2.2) s)) ∧
    decode (0xF4 :: rest) = .ok (.hlt, rest) ∧ exec .hlt s = .next { s with runState := .halted }

/-! ### Strings -/

/-- One element of each string instruction without a repeat prefix (spec/46_string.md R340, R342 to R346): the source at
`DataSeg(DS)`:SI, the destination at ES:DI whatever the override, the pointers moved after the access by the operand
size in the direction of DF; CX is neither read nor changed.
(CMPS and SCAS are the spec's own decision D3, what an override redirects its decision D15.) -/
def Obligations.StringElements : Prop :=
  ∀ s : State, Memory.wf s.mem = true → s.repMode = none →
    let seg := match s.segOverride with
      | some q => s.sr q
      | none => s.sr .ds
    let src := phys seg (s.r16 .si)
    let dst := phys (s.sr .es) (s.r16 .di)
    Completes .movsb s (fun t =>
      Stores8 s t dst (s.busRead8 src) ∧ t.r16 .si = advanced s (s.r16 .si) 1 ∧ t.r16 .di = advanced s (s.r16 .di) 1 ∧
      RegsKeptBut [.si, .di] s t ∧ t.flags = s.flags ∧ OrdinaryKept s t) ∧
    Completes .movsw s (fun t =>
      Stores16 s t dst (s.memRead16 src) ∧ t.r16 .si = advanced s (s.r16 .si) 2 ∧
      t.r16 .di = advanced s (s.r16 .di) 2 ∧ RegsKeptBut [.si, .di] s t ∧ t.flags = s.flags ∧ OrdinaryKept s t) ∧
    Completes .cmpsb s (fun t =>
      (∃ r, SubRule (s.busRead8 src) (s.busRead8 dst) false s.flags r t.flags) ∧
      t.r16 .si = advanced s (s.r16 .si) 1 ∧ t.r16 .di = advanced s (s.r16 .di) 1 ∧
      RegsKeptBut [.si, .di] s t ∧ MemKept s t ∧ OrdinaryKept s t) ∧
    Completes .cmpsw s (fun t =>
      (∃ r, SubRule (s.memRead16 src) (s.memRead16 dst) false s.flags r t.flags) ∧
      t.r16 .si = advanced s (s.r16 .si) 2 ∧ t.r16 .di = advanced s (s.r16 .di) 2 ∧
      RegsKeptBut [.si, .di] s t ∧ MemKept s t ∧ OrdinaryKept s t) ∧
    Completes .stosb s (fun t =>
      Stores8 s t dst (s.r8 .al) ∧ t.r16 .di = advanced s (s.r16 .di) 1 ∧ RegsKeptBut [.di] s t ∧
      t.flags = s.flags ∧ OrdinaryKept s t) ∧
    Completes .stosw s (fun t =>
      Stores16 s t dst (s.r16 .ax) ∧ t.r16 .di = advanced s (s.r16 .di) 2 ∧ RegsKeptBut [.di] s t ∧
      t.flags = s.flags ∧ OrdinaryKept s t) ∧
    Completes .lodsb s (fun t =>
      t.r8 .al = s.busRead8 src ∧ t.r8 .ah = s.r8 .ah ∧ t.r16 .si = advanced s (s.r16 .si) 1 ∧
      RegsKeptBut [.ax, .si] s t ∧ MemKept s t ∧ t.flags = s.flags ∧ OrdinaryKept s t) ∧
    Completes .lodsw s (fun t =>
      t.r16 .ax = s.memRead16 src ∧ t.r16 .si = advanced s (s.r16 .si) 2 ∧
      RegsKeptBut [.ax, .si] s t ∧ MemKept s t ∧ t.flags = s.flags ∧ OrdinaryKept s t) ∧
    Completes .scasb s (fun t =>
      (∃ r, SubRule (s.r8 .al) (s.busRead8 dst) false s.flags r t.flags) ∧ t.r16 .di = advanced s (s.r16 .di) 1 ∧
      RegsKeptBut [.di] s t ∧ MemKept s t ∧ OrdinaryKept s t) ∧
    Completes .scasw s (fun t =>
      (∃ r, SubRule (s.r16 .ax) (s.memRead16 dst) false s.flags r t.flags) ∧ t.r16 .di = advanced s (s.r16 .di) 2 ∧
      RegsKeptBut [.di] s t ∧ MemKept s t ∧ OrdinaryKept s t)

/-- The repeat loop (R341), one turn at a time: with CX = 0 nothing happens; otherwise one element is performed, CX is
decremented, and a comparing primitive stops if the ZF it produced is 0 under F3 or 1 under F2; if it does not stop,
the rest of the loop is the same instruction at the state so reached.
(That the whole loop is one step is the spec's own decision D6.) -/
def Obligations.RepeatLoop : Prop :=
  ∀ row ∈ strings, ∀ (m : RepMode) (s : State), s.repMode = some m →
    ((s.r16 .cx).toNat = 0 → exec row.2 s = .next s) ∧
    ((s.r16 .cx).toNat ≠ 0 →
      ∃ t, exec row.2 (withRep none s) = .next t ∧
        let u := withRep (some m) (t.setR16 .cx (BitVec.ofNat 16 ((s.r16 .cx).toNat - 1)))
        exec row.2 s =
          if row.1 = true ∧ (m = .rep ∧ u.flags.ZF = false ∨ m = .repne ∧ u.flags.ZF = true) then .next u
          else exec row.2 u)

/-- A repeated string instruction completes in one step whatever CX is (R341 point 4), for CX = 0 to 65535: MOVS, LODS
and STOS end with CX = 0.
(That the whole loop is one step is the spec's own decision D6.) -/
def Obligations.RepeatEnds : Prop :=
  ∀ row ∈ strings, ∀ s : State,
    ∃ t, exec row.2 s = .next t ∧ (row.1 = false → s.repMode ≠ none → t.r16 .cx = 0) ∧
      (t.r16 .cx).toNat ≤ (s.r16 .cx).toNat ∧ SregsKept s t ∧ t.ip = s.ip ∧ QuietKept s t

/-- REP STOSB upward fills CX bytes from ES:DI with AL, wherever they can be written, and nothing else; DI ends CX
higher, modulo 2^16 (R344, R341). -/
def Obligations.RepStosbFills : Prop :=
  ∀ (s : State) (m : RepMode), Memory.wf s.mem = true → s.repMode = some m → s.flags.DF = false →
    Completes .stosb s fun t =>
      (∀ a, t.byteAt a =
        if (∃ k < (s.r16 .cx).toNat, a = phys (s.sr .es) (s.r16 .di + BitVec.ofNat 16 k)) ∧
          isWritable s.areas a = true then s.r8 .al else s.byteAt a) ∧
      (t.r16 .di).toNat = ((s.r16 .di).toNat + (s.r16 .cx).toNat) % 2 ^ 16 ∧ t.r16 .cx = 0 ∧
      RegsKeptBut [.di, .cx] s t ∧ t.flags = s.flags ∧ OrdinaryKept s t

/-! ### Ports -/

/-- IN and OUT in their eight forms (spec/47_io.md R360 to R363): the port is the zero-extended byte or DX; a word is two
byte accesses, the port first and then the next port number; IN writes the accumulator after the callbacks and leaves
AH alone in its byte form. (The input stream of a device's answers and the record of the callbacks are the model's own,
log entry 6; what a device answers beyond the stream is free.)
(The order and the wrap of a word access are the spec's own decisions D11 and D13.) -/
def Obligations.InAndOut : Prop :=
  ∀ (s : State) (ib : Byte),
    Completes (.inAlIb ib) s (fun t => InByte s t (BitVec.ofNat 16 ib.toNat)) ∧
    Completes (.inAxIb ib) s (fun t => InWord s t (BitVec.ofNat 16 ib.toNat)) ∧
    Completes .inAlDx s (fun t => InByte s t (s.r16 .dx)) ∧
    Completes .inAxDx s (fun t => InWord s t (s.r16 .dx)) ∧
    Completes (.outIbAl ib) s (PortWrites s (BitVec.ofNat 16 ib.toNat) (s.r8 .al)) ∧
    Completes (.outIbAx ib) s (fun t => OutWord s t (BitVec.ofNat 16 ib.toNat)) ∧
    Completes .outDxAl s (PortWrites s (s.r16 .dx) (s.r8 .al)) ∧
    Completes .outDxAx s (fun t => OutWord s t (s.r16 .dx))

/-! ### Reset and the host -/

/-- What reset leaves (spec/10_state.md R36, spec/70_reset_and_hazards.md R410): CS, IP and FLAGS as the spec gives them,
the latches empty, the run state Reset; `reset()` changes no byte of memory, no port, no map and no fault record, and
nothing at all in Faulted. Nothing is said of the eleven registers the spec leaves unspecified.
(That `reset()` does not leave Faulted is the spec's own decision D4.) -/
def Obligations.ResetValues : Prop :=
  (State.reset.sr .cs = 0xFFFF ∧ State.reset.ip = 0x0000 ∧ State.reset.flags.toWord = 0x0000 ∧
    State.reset.segOverride = none ∧ State.reset.repMode = none ∧ State.reset.runState = .reset ∧
    State.reset.fault = none) ∧
  ∀ s : State,
    (s.runState ≠ .faulted →
      s.resetAgain.sr .cs = 0xFFFF ∧ s.resetAgain.ip = 0x0000 ∧ s.resetAgain.flags.toWord = 0x0000 ∧
      s.resetAgain.segOverride = none ∧ s.resetAgain.repMode = none ∧ s.resetAgain.runState = .reset ∧
      s.resetAgain.fault = s.fault ∧ MemKept s s.resetAgain ∧ s.resetAgain.areas = s.areas ∧
      s.resetAgain.ports = s.ports ∧ s.resetAgain.answers = s.answers ∧ s.resetAgain.portLog = s.portLog) ∧
    (s.runState = .faulted → s.resetAgain = s)

/-- `load_image` (spec/20_memory.md R89) into the area at place `k` of the registration order: an image that fills the area
from the offset to its end replaces those bytes, whatever the area's flags, and no other; any other size is refused.
Where areas overlap the first attached wins (R64, R415): a byte that an area attached earlier covers stays as it was. -/
def Obligations.ImageLoads : Prop :=
  ∀ (s : State) (k : Nat) (a : MemArea) (offset : Nat) (image : List Byte), Memory.wf s.mem = true →
    s.areas[k]? = some a → a.stop < 2 ^ 20 →
    let hidden (x : Addr) : Prop := ∃ b ∈ s.areas.take k, b.start ≤ x.toNat ∧ x.toNat ≤ b.stop
    (a.start + offset + image.length ≠ a.stop + 1 → s.loadImage k offset image = none) ∧
    (a.start + offset + image.length = a.stop + 1 →
      ∃ t, s.loadImage k offset image = some t ∧ Memory.wf t.mem = true ∧ t = { s with mem := t.mem } ∧
        (∀ n, (h : n < image.length) → ¬ hidden (BitVec.ofNat 20 (a.start + offset + n)) →
          t.byteAt (BitVec.ofNat 20 (a.start + offset + n)) = image[n]) ∧
        ∀ x : Addr, hidden x ∨ ¬ (a.start + offset ≤ x.toNat ∧ x.toNat ≤ a.stop) → t.byteAt x = s.byteAt x)

end
end

