-- ==== Sys2Proof/Laws/Bits.lean ====
section
/-! SUPPORT. The bit fields, byte-order helpers and register numbers of Decode.lean: splitting and joining are inverse. -/

namespace Sys2Proof

theorem wordOf_toNat (lo hi : Byte) : (wordOf lo hi).toNat = hi.toNat * 256 + lo.toNat := by
  have hl := lo.isLt
  simp only [wordOf, BitVec.toNat_append, Nat.shiftLeft_eq]
  rw [← Nat.shiftLeft_eq, ← Nat.shiftLeft_add_eq_or_of_lt (by omega), Nat.shiftLeft_eq]

theorem lowByte_toNat (w : Word) : (lowByte w).toNat = w.toNat % 256 := by
  simp [lowByte]

theorem highByte_toNat (w : Word) : (highByte w).toNat = w.toNat / 256 := by
  have := w.isLt
  simp [highByte, Nat.shiftRight_eq_div_pow]
  omega

@[simp] theorem lowByte_wordOf (lo hi : Byte) : lowByte (wordOf lo hi) = lo := by
  apply BitVec.eq_of_toNat_eq
  rw [lowByte_toNat, wordOf_toNat]
  have := lo.isLt
  omega

@[simp] theorem highByte_wordOf (lo hi : Byte) : highByte (wordOf lo hi) = hi := by
  apply BitVec.eq_of_toNat_eq
  rw [highByte_toNat, wordOf_toNat]
  have := lo.isLt
  omega

@[simp] theorem wordOf_low_high (w : Word) : wordOf (lowByte w) (highByte w) = w := by
  apply BitVec.eq_of_toNat_eq
  rw [wordOf_toNat, lowByte_toNat, highByte_toNat]
  omega

@[simp] theorem modField_modrmByte : ∀ (m : BitVec 2) (g r : BitVec 3), modField (modrmByte m g r) = m := by decide
@[simp] theorem regField_modrmByte : ∀ (m : BitVec 2) (g r : BitVec 3), regField (modrmByte m g r) = g := by decide
@[simp] theorem rmField_modrmByte : ∀ (m : BitVec 2) (g r : BitVec 3), rmField (modrmByte m g r) = r := by decide

@[simp] theorem modrmByte_fields : ∀ b : Byte, modrmByte (modField b) (regField b) (rmField b) = b := by decide

@[simp] theorem Reg16.ofNum_num (r : Reg16) : Reg16.ofNum r.num = r := by cases r <;> rfl
@[simp] theorem Reg16.num_ofNum : ∀ n : BitVec 3, (Reg16.ofNum n).num = n := by decide
@[simp] theorem Reg8.ofNum_num (r : Reg8) : Reg8.ofNum r.num = r := by cases r <;> rfl
@[simp] theorem Reg8.num_ofNum : ∀ n : BitVec 3, (Reg8.ofNum n).num = n := by decide
@[simp] theorem RmBase.ofNum_num (b : RmBase) : RmBase.ofNum b.num = b := by cases b <;> rfl
@[simp] theorem RmBase.num_ofNum : ∀ n : BitVec 3, (RmBase.ofNum n).num = n := by decide
@[simp] theorem Sreg.ofNum?_num3 (r : Sreg) : Sreg.ofNum? r.num3 = some r := by cases r <;> rfl
theorem Sreg.num3_of_ofNum? : ∀ (n : BitVec 3) (r : Sreg), Sreg.ofNum? n = some r → r.num3 = n := by
  intro n r
  cases r <;> revert n <;> decide

@[simp] theorem Rm.byte_map_num (rm : Rm Reg8) : Rm.byte (rm.map Reg8.num) = rm := by cases rm <;> simp [Rm.byte, Rm.map]
@[simp] theorem Rm.word_map_num (rm : Rm Reg16) : Rm.word (rm.map Reg16.num) = rm := by cases rm <;> simp [Rm.word, Rm.map]
@[simp] theorem Rm.map_num_byte (rm : Rm (BitVec 3)) : rm.byte.map Reg8.num = rm := by cases rm <;> simp [Rm.byte, Rm.map]
@[simp] theorem Rm.map_num_word (rm : Rm (BitVec 3)) : rm.word.map Reg16.num = rm := by cases rm <;> simp [Rm.word, Rm.map]
@[simp] theorem Rm.wf_map {R S : Type} (f : R → S) (rm : Rm R) : (rm.map f).wf = rm.wf := by cases rm <;> rfl
@[simp] theorem Rm.wf_byte (rm : Rm (BitVec 3)) : rm.byte.wf = rm.wf := Rm.wf_map _ _
@[simp] theorem Rm.wf_word (rm : Rm (BitVec 3)) : rm.word.wf = rm.wf := Rm.wf_map _ _

@[simp] theorem rmField_opcodePlus_low : ∀ r : BitVec 3,
    rmField (opcodePlus 0x40 r) = r ∧ rmField (opcodePlus 0x48 r) = r ∧ rmField (opcodePlus 0x50 r) = r ∧
    rmField (opcodePlus 0x58 r) = r ∧ rmField (opcodePlus 0x90 r) = r ∧ rmField (opcodePlus 0xB0 r) = r ∧
    rmField (opcodePlus 0xB8 r) = r := by decide

end Sys2Proof
end

