-- ==== Sys2Proof/Laws/Decode.lean ====
section
/-! SUPPORT. The decoder's parts undo the encoder's, and the encoder's undo the decoder's. -/

namespace Sys2Proof

/-- Decoding undoes encoding for a ModR/M operand. -/
@[simp] theorem decodeRm_encodeRm {rm : Rm (BitVec 3)} (h : rm.wf = true) (g : BitVec 3) (bs : List Byte) :
    decodeRm (encodeRm g rm ++ bs) = .ok (g, rm, bs) := by
  cases rm with
  | reg r => simp [encodeRm, decodeRm]
  | mem m =>
    cases m with
    | ind b =>
      cases b <;> simp_all [encodeRm, encodeMem, decodeRm, Rm.wf, MemOp.wf, RmBase.num] <;> rfl
    | direct d => simp [encodeRm, encodeMem, encodeWord, decodeRm]
    | disp8 b d => simp [encodeRm, encodeMem, decodeRm]
    | disp16 b d => simp [encodeRm, encodeMem, encodeWord, decodeRm]

@[simp] theorem decodeRm_encodeRm8 {rm : Rm Reg8} (h : rm.wf = true) (g : BitVec 3) (bs : List Byte) :
    decodeRm (encodeRm8 g rm ++ bs) = .ok (g, rm.map Reg8.num, bs) :=
  decodeRm_encodeRm (by simpa using h) g bs

@[simp] theorem decodeRm_encodeRm16 {rm : Rm Reg16} (h : rm.wf = true) (g : BitVec 3) (bs : List Byte) :
    decodeRm (encodeRm16 g rm ++ bs) = .ok (g, rm.map Reg16.num, bs) :=
  decodeRm_encodeRm (by simpa using h) g bs

@[simp] theorem decodeRm_encodeMem {m : MemOp} (h : m.wf = true) (g : BitVec 3) (bs : List Byte) :
    decodeRm (encodeMem g m ++ bs) = .ok (g, .mem m, bs) :=
  decodeRm_encodeRm (rm := .mem m) h g bs

/-- Encoding undoes decoding for a ModR/M operand, and every decoded operand is well-formed. -/
theorem encodeRm_of_decodeRm {bs rest : List Byte} {g : BitVec 3} {rm : Rm (BitVec 3)}
    (h : decodeRm bs = .ok (g, rm, rest)) : rm.wf = true ∧ encodeRm g rm ++ rest = bs := by
  unfold decodeRm at h
  split at h
  · cases h
  · rename_i b bs
    have hb := modrmByte_fields b
    split at h
    · rename_i hm
      cases h
      exact ⟨rfl, by rw [hm] at hb; simp [encodeRm]; exact hb⟩
    · split at h
      · rename_i hm
        split at h
        · cases h
          exact ⟨rfl, by rw [hm] at hb; simp [encodeRm, encodeMem]; exact hb⟩
        · cases h
      · split at h
        · rename_i hm
          split at h
          · cases h
            exact ⟨rfl, by rw [hm] at hb; simp [encodeRm, encodeMem, encodeWord]; exact hb⟩
          · cases h
        · have hz : ∀ b : Byte, ¬modField b = 3 → ¬modField b = 1 → ¬modField b = 2 → modField b = 0 := by decide
          have hm := hz b ‹_› ‹_› ‹_›
          split at h
          · rename_i hr
            split at h
            · cases h
              exact ⟨rfl, by rw [hm, hr] at hb; simp [encodeRm, encodeMem, encodeWord]; exact hb⟩
            · cases h
          · rename_i hr
            cases h
            refine ⟨?_, by rw [hm] at hb; simp [encodeRm, encodeMem]; exact hb⟩
            revert hr
            generalize rmField b = r
            revert r
            decide

/-- The bytes an operand takes. -/
theorem encodeRm_length (g : BitVec 3) (rm : Rm (BitVec 3)) :
    1 ≤ (encodeRm g rm).length ∧ (encodeRm g rm).length ≤ 3 := by
  cases rm with
  | reg r => simp [encodeRm]
  | mem m => cases m <;> simp [encodeRm, encodeMem, encodeWord]

theorem encodeRm8_length (g : BitVec 3) (rm : Rm Reg8) :
    1 ≤ (encodeRm8 g rm).length ∧ (encodeRm8 g rm).length ≤ 3 := encodeRm_length _ _

theorem encodeRm16_length (g : BitVec 3) (rm : Rm Reg16) :
    1 ≤ (encodeRm16 g rm).length ∧ (encodeRm16 g rm).length ≤ 3 := encodeRm_length _ _

theorem encodeMem_length (g : BitVec 3) (m : MemOp) :
    1 ≤ (encodeMem g m).length ∧ (encodeMem g m).length ≤ 3 := encodeRm_length g (.mem m)

@[simp] theorem encodeWord_length (w : Word) : (encodeWord w).length = 2 := rfl

/-- A list of three bytes or more holds a whole ModR/M operand; at most two bytes are used up after the first. -/
theorem decodeRm_total {bs : List Byte} (h : 3 ≤ bs.length) :
    ∃ g rm rest, decodeRm bs = .ok (g, rm, rest) ∧ bs.length ≤ rest.length + 3 := by
  match bs, h with
  | a :: b :: c :: bs, _ =>
    unfold decodeRm
    split
    · exact absurd ‹_› (by simp)
    · rename_i x xs hx
      cases hx
      split
      · exact ⟨_, _, _, rfl, by simp⟩
      · split
        · exact ⟨_, _, _, rfl, by simp⟩
        · split
          · exact ⟨_, _, _, rfl, by simp⟩
          · split
            · exact ⟨_, _, _, rfl, by simp⟩
            · exact ⟨_, _, _, rfl, by simp⟩

theorem Tail.run_total (t : Tail) {bs : List Byte} (h : 2 ≤ bs.length) : ∃ i rest, t.run bs = .ok (i, rest) := by
  match bs, h with
  | a :: b :: bs, _ => cases t <;> exact ⟨_, _, rfl⟩

/-- Five bytes after the opcode are enough for every format. -/
theorem Form.run_total (f : Form) {bs : List Byte} (h : 5 ≤ bs.length) : ∃ i rest, f.run bs = .ok (i, rest) := by
  cases f with
  | plain t => exact Tail.run_total t (by omega)
  | far k =>
    match bs, h with
    | a :: b :: c :: d :: bs, _ => exact ⟨_, _, rfl⟩
  | modrm k =>
    obtain ⟨g, rm, rest, he, hl⟩ := decodeRm_total (bs := bs) (by omega)
    obtain ⟨i, r, hr⟩ := Tail.run_total (k g rm) (bs := rest) (by omega)
    exact ⟨i, r, by simp [Form.run, he, hr]⟩

/-- The immediate is a front part of the bytes. -/
theorem Tail.run_split {t : Tail} {bs rest : List Byte} {i : Instr} (h : t.run bs = .ok (i, rest)) :
    (t = .done i ∧ rest = bs) ∨ (∃ k b, t = .ib k ∧ i = k b ∧ bs = b :: rest) ∨
    (∃ k w, t = .iw k ∧ i = k w ∧ bs = encodeWord w ++ rest) := by
  unfold Tail.run at h
  split at h
  · cases h; exact .inl ⟨rfl, rfl⟩
  · cases h; exact .inr (.inl ⟨_, _, rfl, rfl, rfl⟩)
  · cases h
  · cases h; exact .inr (.inr ⟨_, _, rfl, rfl, by simp [encodeWord]⟩)
  · cases h

end Sys2Proof
end

