-- ==== Sys2Proof/Laws/State.lean ====
section
/-! SUPPORT. One lemma per field per update of the state: what an operation of Machine/Ops.lean or Machine/Operands.lean
leaves in each field, so that no proof unfolds a record update. -/

namespace Sys2Proof.Machine

@[simp] theorem State.setR16_regs (s : State) (r : Reg16) (v : Word) : (s.setR16 r v).regs = s.regs.set16 r v := rfl
@[simp] theorem State.setR16_sregs (s : State) (r : Reg16) (v : Word) : (s.setR16 r v).sregs = s.sregs := rfl
@[simp] theorem State.setR16_ip (s : State) (r : Reg16) (v : Word) : (s.setR16 r v).ip = s.ip := rfl
@[simp] theorem State.setR16_flags (s : State) (r : Reg16) (v : Word) : (s.setR16 r v).flags = s.flags := rfl
@[simp] theorem State.setR16_runState (s : State) (r : Reg16) (v : Word) : (s.setR16 r v).runState = s.runState := rfl
@[simp] theorem State.setR16_fault (s : State) (r : Reg16) (v : Word) : (s.setR16 r v).fault = s.fault := rfl
@[simp] theorem State.setR16_segOverride (s : State) (r : Reg16) (v : Word) : (s.setR16 r v).segOverride = s.segOverride := rfl
@[simp] theorem State.setR16_repMode (s : State) (r : Reg16) (v : Word) : (s.setR16 r v).repMode = s.repMode := rfl
@[simp] theorem State.setR16_ip0 (s : State) (r : Reg16) (v : Word) : (s.setR16 r v).ip0 = s.ip0 := rfl
@[simp] theorem State.setR16_mem (s : State) (r : Reg16) (v : Word) : (s.setR16 r v).mem = s.mem := rfl
@[simp] theorem State.setR16_areas (s : State) (r : Reg16) (v : Word) : (s.setR16 r v).areas = s.areas := rfl
@[simp] theorem State.setR16_ports (s : State) (r : Reg16) (v : Word) : (s.setR16 r v).ports = s.ports := rfl
@[simp] theorem State.setR16_answers (s : State) (r : Reg16) (v : Word) : (s.setR16 r v).answers = s.answers := rfl
@[simp] theorem State.setR16_portLog (s : State) (r : Reg16) (v : Word) : (s.setR16 r v).portLog = s.portLog := rfl
@[simp] theorem State.setR16_draws (s : State) (r : Reg16) (v : Word) : (s.setR16 r v).draws = s.draws := rfl

@[simp] theorem State.setR8_regs (s : State) (r : Reg8) (v : Byte) : (s.setR8 r v).regs = s.regs.set8 r v := rfl
@[simp] theorem State.setR8_sregs (s : State) (r : Reg8) (v : Byte) : (s.setR8 r v).sregs = s.sregs := rfl
@[simp] theorem State.setR8_ip (s : State) (r : Reg8) (v : Byte) : (s.setR8 r v).ip = s.ip := rfl
@[simp] theorem State.setR8_flags (s : State) (r : Reg8) (v : Byte) : (s.setR8 r v).flags = s.flags := rfl
@[simp] theorem State.setR8_runState (s : State) (r : Reg8) (v : Byte) : (s.setR8 r v).runState = s.runState := rfl
@[simp] theorem State.setR8_fault (s : State) (r : Reg8) (v : Byte) : (s.setR8 r v).fault = s.fault := rfl
@[simp] theorem State.setR8_segOverride (s : State) (r : Reg8) (v : Byte) : (s.setR8 r v).segOverride = s.segOverride := rfl
@[simp] theorem State.setR8_repMode (s : State) (r : Reg8) (v : Byte) : (s.setR8 r v).repMode = s.repMode := rfl
@[simp] theorem State.setR8_ip0 (s : State) (r : Reg8) (v : Byte) : (s.setR8 r v).ip0 = s.ip0 := rfl
@[simp] theorem State.setR8_mem (s : State) (r : Reg8) (v : Byte) : (s.setR8 r v).mem = s.mem := rfl
@[simp] theorem State.setR8_areas (s : State) (r : Reg8) (v : Byte) : (s.setR8 r v).areas = s.areas := rfl
@[simp] theorem State.setR8_ports (s : State) (r : Reg8) (v : Byte) : (s.setR8 r v).ports = s.ports := rfl
@[simp] theorem State.setR8_answers (s : State) (r : Reg8) (v : Byte) : (s.setR8 r v).answers = s.answers := rfl
@[simp] theorem State.setR8_portLog (s : State) (r : Reg8) (v : Byte) : (s.setR8 r v).portLog = s.portLog := rfl
@[simp] theorem State.setR8_draws (s : State) (r : Reg8) (v : Byte) : (s.setR8 r v).draws = s.draws := rfl

@[simp] theorem State.setSr_regs (s : State) (r : Sreg) (v : Word) : (s.setSr r v).regs = s.regs := rfl
@[simp] theorem State.setSr_sregs (s : State) (r : Sreg) (v : Word) : (s.setSr r v).sregs = s.sregs.set r v := rfl
@[simp] theorem State.setSr_ip (s : State) (r : Sreg) (v : Word) : (s.setSr r v).ip = s.ip := rfl
@[simp] theorem State.setSr_flags (s : State) (r : Sreg) (v : Word) : (s.setSr r v).flags = s.flags := rfl
@[simp] theorem State.setSr_runState (s : State) (r : Sreg) (v : Word) : (s.setSr r v).runState = s.runState := rfl
@[simp] theorem State.setSr_fault (s : State) (r : Sreg) (v : Word) : (s.setSr r v).fault = s.fault := rfl
@[simp] theorem State.setSr_segOverride (s : State) (r : Sreg) (v : Word) : (s.setSr r v).segOverride = s.segOverride := rfl
@[simp] theorem State.setSr_repMode (s : State) (r : Sreg) (v : Word) : (s.setSr r v).repMode = s.repMode := rfl
@[simp] theorem State.setSr_ip0 (s : State) (r : Sreg) (v : Word) : (s.setSr r v).ip0 = s.ip0 := rfl
@[simp] theorem State.setSr_mem (s : State) (r : Sreg) (v : Word) : (s.setSr r v).mem = s.mem := rfl
@[simp] theorem State.setSr_areas (s : State) (r : Sreg) (v : Word) : (s.setSr r v).areas = s.areas := rfl
@[simp] theorem State.setSr_ports (s : State) (r : Sreg) (v : Word) : (s.setSr r v).ports = s.ports := rfl
@[simp] theorem State.setSr_answers (s : State) (r : Sreg) (v : Word) : (s.setSr r v).answers = s.answers := rfl
@[simp] theorem State.setSr_portLog (s : State) (r : Sreg) (v : Word) : (s.setSr r v).portLog = s.portLog := rfl
@[simp] theorem State.setSr_draws (s : State) (r : Sreg) (v : Word) : (s.setSr r v).draws = s.draws := rfl

@[simp] theorem State.setIp_regs (s : State) (v : Word) : (s.setIp v).regs = s.regs := rfl
@[simp] theorem State.setIp_sregs (s : State) (v : Word) : (s.setIp v).sregs = s.sregs := rfl
@[simp] theorem State.setIp_ip (s : State) (v : Word) : (s.setIp v).ip = v := rfl
@[simp] theorem State.setIp_flags (s : State) (v : Word) : (s.setIp v).flags = s.flags := rfl
@[simp] theorem State.setIp_runState (s : State) (v : Word) : (s.setIp v).runState = s.runState := rfl
@[simp] theorem State.setIp_fault (s : State) (v : Word) : (s.setIp v).fault = s.fault := rfl
@[simp] theorem State.setIp_segOverride (s : State) (v : Word) : (s.setIp v).segOverride = s.segOverride := rfl
@[simp] theorem State.setIp_repMode (s : State) (v : Word) : (s.setIp v).repMode = s.repMode := rfl
@[simp] theorem State.setIp_ip0 (s : State) (v : Word) : (s.setIp v).ip0 = s.ip0 := rfl
@[simp] theorem State.setIp_mem (s : State) (v : Word) : (s.setIp v).mem = s.mem := rfl
@[simp] theorem State.setIp_areas (s : State) (v : Word) : (s.setIp v).areas = s.areas := rfl
@[simp] theorem State.setIp_ports (s : State) (v : Word) : (s.setIp v).ports = s.ports := rfl
@[simp] theorem State.setIp_answers (s : State) (v : Word) : (s.setIp v).answers = s.answers := rfl
@[simp] theorem State.setIp_portLog (s : State) (v : Word) : (s.setIp v).portLog = s.portLog := rfl
@[simp] theorem State.setIp_draws (s : State) (v : Word) : (s.setIp v).draws = s.draws := rfl

@[simp] theorem State.setFlags_regs (s : State) (f : Flags) : (s.setFlags f).regs = s.regs := rfl
@[simp] theorem State.setFlags_sregs (s : State) (f : Flags) : (s.setFlags f).sregs = s.sregs := rfl
@[simp] theorem State.setFlags_ip (s : State) (f : Flags) : (s.setFlags f).ip = s.ip := rfl
@[simp] theorem State.setFlags_flags (s : State) (f : Flags) : (s.setFlags f).flags = f := rfl
@[simp] theorem State.setFlags_runState (s : State) (f : Flags) : (s.setFlags f).runState = s.runState := rfl
@[simp] theorem State.setFlags_fault (s : State) (f : Flags) : (s.setFlags f).fault = s.fault := rfl
@[simp] theorem State.setFlags_segOverride (s : State) (f : Flags) : (s.setFlags f).segOverride = s.segOverride := rfl
@[simp] theorem State.setFlags_repMode (s : State) (f : Flags) : (s.setFlags f).repMode = s.repMode := rfl
@[simp] theorem State.setFlags_ip0 (s : State) (f : Flags) : (s.setFlags f).ip0 = s.ip0 := rfl
@[simp] theorem State.setFlags_mem (s : State) (f : Flags) : (s.setFlags f).mem = s.mem := rfl
@[simp] theorem State.setFlags_areas (s : State) (f : Flags) : (s.setFlags f).areas = s.areas := rfl
@[simp] theorem State.setFlags_ports (s : State) (f : Flags) : (s.setFlags f).ports = s.ports := rfl
@[simp] theorem State.setFlags_answers (s : State) (f : Flags) : (s.setFlags f).answers = s.answers := rfl
@[simp] theorem State.setFlags_portLog (s : State) (f : Flags) : (s.setFlags f).portLog = s.portLog := rfl
@[simp] theorem State.setFlags_draws (s : State) (f : Flags) : (s.setFlags f).draws = s.draws := rfl

@[simp] theorem State.drew_regs (s : State) (n : Nat) : (s.drew n).regs = s.regs := rfl
@[simp] theorem State.drew_sregs (s : State) (n : Nat) : (s.drew n).sregs = s.sregs := rfl
@[simp] theorem State.drew_ip (s : State) (n : Nat) : (s.drew n).ip = s.ip := rfl
@[simp] theorem State.drew_flags (s : State) (n : Nat) : (s.drew n).flags = s.flags := rfl
@[simp] theorem State.drew_runState (s : State) (n : Nat) : (s.drew n).runState = s.runState := rfl
@[simp] theorem State.drew_fault (s : State) (n : Nat) : (s.drew n).fault = s.fault := rfl
@[simp] theorem State.drew_segOverride (s : State) (n : Nat) : (s.drew n).segOverride = s.segOverride := rfl
@[simp] theorem State.drew_repMode (s : State) (n : Nat) : (s.drew n).repMode = s.repMode := rfl
@[simp] theorem State.drew_ip0 (s : State) (n : Nat) : (s.drew n).ip0 = s.ip0 := rfl
@[simp] theorem State.drew_mem (s : State) (n : Nat) : (s.drew n).mem = s.mem := rfl
@[simp] theorem State.drew_areas (s : State) (n : Nat) : (s.drew n).areas = s.areas := rfl
@[simp] theorem State.drew_ports (s : State) (n : Nat) : (s.drew n).ports = s.ports := rfl
@[simp] theorem State.drew_answers (s : State) (n : Nat) : (s.drew n).answers = s.answers := rfl
@[simp] theorem State.drew_portLog (s : State) (n : Nat) : (s.drew n).portLog = s.portLog := rfl
@[simp] theorem State.drew_draws (s : State) (n : Nat) : (s.drew n).draws = s.draws + n := rfl

@[simp] theorem State.busWrite8_regs (s : State) (pa : Addr) (v : Byte) : (s.busWrite8 pa v).regs = s.regs := rfl
@[simp] theorem State.busWrite8_sregs (s : State) (pa : Addr) (v : Byte) : (s.busWrite8 pa v).sregs = s.sregs := rfl
@[simp] theorem State.busWrite8_ip (s : State) (pa : Addr) (v : Byte) : (s.busWrite8 pa v).ip = s.ip := rfl
@[simp] theorem State.busWrite8_flags (s : State) (pa : Addr) (v : Byte) : (s.busWrite8 pa v).flags = s.flags := rfl
@[simp] theorem State.busWrite8_runState (s : State) (pa : Addr) (v : Byte) : (s.busWrite8 pa v).runState = s.runState := rfl
@[simp] theorem State.busWrite8_fault (s : State) (pa : Addr) (v : Byte) : (s.busWrite8 pa v).fault = s.fault := rfl
@[simp] theorem State.busWrite8_segOverride (s : State) (pa : Addr) (v : Byte) : (s.busWrite8 pa v).segOverride = s.segOverride := rfl
@[simp] theorem State.busWrite8_repMode (s : State) (pa : Addr) (v : Byte) : (s.busWrite8 pa v).repMode = s.repMode := rfl
@[simp] theorem State.busWrite8_ip0 (s : State) (pa : Addr) (v : Byte) : (s.busWrite8 pa v).ip0 = s.ip0 := rfl
@[simp] theorem State.busWrite8_mem (s : State) (pa : Addr) (v : Byte) : (s.busWrite8 pa v).mem = memAfterWrite s.areas s.mem pa v := rfl
@[simp] theorem State.busWrite8_areas (s : State) (pa : Addr) (v : Byte) : (s.busWrite8 pa v).areas = s.areas := rfl
@[simp] theorem State.busWrite8_ports (s : State) (pa : Addr) (v : Byte) : (s.busWrite8 pa v).ports = s.ports := rfl
@[simp] theorem State.busWrite8_answers (s : State) (pa : Addr) (v : Byte) : (s.busWrite8 pa v).answers = s.answers := rfl
@[simp] theorem State.busWrite8_portLog (s : State) (pa : Addr) (v : Byte) : (s.busWrite8 pa v).portLog = s.portLog := rfl
@[simp] theorem State.busWrite8_draws (s : State) (pa : Addr) (v : Byte) : (s.busWrite8 pa v).draws = s.draws := rfl

@[simp] theorem State.memWrite16_regs (s : State) (pa : Addr) (v : Word) : (s.memWrite16 pa v).regs = s.regs := rfl
@[simp] theorem State.memWrite16_sregs (s : State) (pa : Addr) (v : Word) : (s.memWrite16 pa v).sregs = s.sregs := rfl
@[simp] theorem State.memWrite16_ip (s : State) (pa : Addr) (v : Word) : (s.memWrite16 pa v).ip = s.ip := rfl
@[simp] theorem State.memWrite16_flags (s : State) (pa : Addr) (v : Word) : (s.memWrite16 pa v).flags = s.flags := rfl
@[simp] theorem State.memWrite16_runState (s : State) (pa : Addr) (v : Word) : (s.memWrite16 pa v).runState = s.runState := rfl
@[simp] theorem State.memWrite16_fault (s : State) (pa : Addr) (v : Word) : (s.memWrite16 pa v).fault = s.fault := rfl
@[simp] theorem State.memWrite16_segOverride (s : State) (pa : Addr) (v : Word) : (s.memWrite16 pa v).segOverride = s.segOverride := rfl
@[simp] theorem State.memWrite16_repMode (s : State) (pa : Addr) (v : Word) : (s.memWrite16 pa v).repMode = s.repMode := rfl
@[simp] theorem State.memWrite16_ip0 (s : State) (pa : Addr) (v : Word) : (s.memWrite16 pa v).ip0 = s.ip0 := rfl
@[simp] theorem State.memWrite16_mem (s : State) (pa : Addr) (v : Word) : (s.memWrite16 pa v).mem = memAfterWrite s.areas (memAfterWrite s.areas s.mem pa (lowByte v)) (pa + 1) (highByte v) := rfl
@[simp] theorem State.memWrite16_areas (s : State) (pa : Addr) (v : Word) : (s.memWrite16 pa v).areas = s.areas := rfl
@[simp] theorem State.memWrite16_ports (s : State) (pa : Addr) (v : Word) : (s.memWrite16 pa v).ports = s.ports := rfl
@[simp] theorem State.memWrite16_answers (s : State) (pa : Addr) (v : Word) : (s.memWrite16 pa v).answers = s.answers := rfl
@[simp] theorem State.memWrite16_portLog (s : State) (pa : Addr) (v : Word) : (s.memWrite16 pa v).portLog = s.portLog := rfl
@[simp] theorem State.memWrite16_draws (s : State) (pa : Addr) (v : Word) : (s.memWrite16 pa v).draws = s.draws := rfl

@[simp] theorem State.store8_regs (s : State) (seg off : Word) (v : Byte) : (s.store8 seg off v).regs = s.regs := rfl
@[simp] theorem State.store8_sregs (s : State) (seg off : Word) (v : Byte) : (s.store8 seg off v).sregs = s.sregs := rfl
@[simp] theorem State.store8_ip (s : State) (seg off : Word) (v : Byte) : (s.store8 seg off v).ip = s.ip := rfl
@[simp] theorem State.store8_flags (s : State) (seg off : Word) (v : Byte) : (s.store8 seg off v).flags = s.flags := rfl
@[simp] theorem State.store8_runState (s : State) (seg off : Word) (v : Byte) : (s.store8 seg off v).runState = s.runState := rfl
@[simp] theorem State.store8_fault (s : State) (seg off : Word) (v : Byte) : (s.store8 seg off v).fault = s.fault := rfl
@[simp] theorem State.store8_segOverride (s : State) (seg off : Word) (v : Byte) : (s.store8 seg off v).segOverride = s.segOverride := rfl
@[simp] theorem State.store8_repMode (s : State) (seg off : Word) (v : Byte) : (s.store8 seg off v).repMode = s.repMode := rfl
@[simp] theorem State.store8_ip0 (s : State) (seg off : Word) (v : Byte) : (s.store8 seg off v).ip0 = s.ip0 := rfl
@[simp] theorem State.store8_mem (s : State) (seg off : Word) (v : Byte) : (s.store8 seg off v).mem = memAfterWrite s.areas s.mem (phys seg off) v := rfl
@[simp] theorem State.store8_areas (s : State) (seg off : Word) (v : Byte) : (s.store8 seg off v).areas = s.areas := rfl
@[simp] theorem State.store8_ports (s : State) (seg off : Word) (v : Byte) : (s.store8 seg off v).ports = s.ports := rfl
@[simp] theorem State.store8_answers (s : State) (seg off : Word) (v : Byte) : (s.store8 seg off v).answers = s.answers := rfl
@[simp] theorem State.store8_portLog (s : State) (seg off : Word) (v : Byte) : (s.store8 seg off v).portLog = s.portLog := rfl
@[simp] theorem State.store8_draws (s : State) (seg off : Word) (v : Byte) : (s.store8 seg off v).draws = s.draws := rfl

@[simp] theorem State.store16_regs (s : State) (seg off v : Word) : (s.store16 seg off v).regs = s.regs := rfl
@[simp] theorem State.store16_sregs (s : State) (seg off v : Word) : (s.store16 seg off v).sregs = s.sregs := rfl
@[simp] theorem State.store16_ip (s : State) (seg off v : Word) : (s.store16 seg off v).ip = s.ip := rfl
@[simp] theorem State.store16_flags (s : State) (seg off v : Word) : (s.store16 seg off v).flags = s.flags := rfl
@[simp] theorem State.store16_runState (s : State) (seg off v : Word) : (s.store16 seg off v).runState = s.runState := rfl
@[simp] theorem State.store16_fault (s : State) (seg off v : Word) : (s.store16 seg off v).fault = s.fault := rfl
@[simp] theorem State.store16_segOverride (s : State) (seg off v : Word) : (s.store16 seg off v).segOverride = s.segOverride := rfl
@[simp] theorem State.store16_repMode (s : State) (seg off v : Word) : (s.store16 seg off v).repMode = s.repMode := rfl
@[simp] theorem State.store16_ip0 (s : State) (seg off v : Word) : (s.store16 seg off v).ip0 = s.ip0 := rfl
@[simp] theorem State.store16_mem (s : State) (seg off v : Word) : (s.store16 seg off v).mem = memAfterWrite s.areas (memAfterWrite s.areas s.mem (phys seg off) (lowByte v)) (phys seg off + 1) (highByte v) := rfl
@[simp] theorem State.store16_areas (s : State) (seg off v : Word) : (s.store16 seg off v).areas = s.areas := rfl
@[simp] theorem State.store16_ports (s : State) (seg off v : Word) : (s.store16 seg off v).ports = s.ports := rfl
@[simp] theorem State.store16_answers (s : State) (seg off v : Word) : (s.store16 seg off v).answers = s.answers := rfl
@[simp] theorem State.store16_portLog (s : State) (seg off v : Word) : (s.store16 seg off v).portLog = s.portLog := rfl
@[simp] theorem State.store16_draws (s : State) (seg off v : Word) : (s.store16 seg off v).draws = s.draws := rfl

@[simp] theorem State.push16_regs (s : State) (v : Word) : (s.push16 v).regs = s.regs.set16 .sp (s.regs.sp - 2) := rfl
@[simp] theorem State.push16_sregs (s : State) (v : Word) : (s.push16 v).sregs = s.sregs := rfl
@[simp] theorem State.push16_ip (s : State) (v : Word) : (s.push16 v).ip = s.ip := rfl
@[simp] theorem State.push16_flags (s : State) (v : Word) : (s.push16 v).flags = s.flags := rfl
@[simp] theorem State.push16_runState (s : State) (v : Word) : (s.push16 v).runState = s.runState := rfl
@[simp] theorem State.push16_fault (s : State) (v : Word) : (s.push16 v).fault = s.fault := rfl
@[simp] theorem State.push16_segOverride (s : State) (v : Word) : (s.push16 v).segOverride = s.segOverride := rfl
@[simp] theorem State.push16_repMode (s : State) (v : Word) : (s.push16 v).repMode = s.repMode := rfl
@[simp] theorem State.push16_ip0 (s : State) (v : Word) : (s.push16 v).ip0 = s.ip0 := rfl
@[simp] theorem State.push16_mem (s : State) (v : Word) : (s.push16 v).mem = (s.store16 s.sregs.ss (s.regs.sp - 2) v).mem := rfl
@[simp] theorem State.push16_areas (s : State) (v : Word) : (s.push16 v).areas = s.areas := rfl
@[simp] theorem State.push16_ports (s : State) (v : Word) : (s.push16 v).ports = s.ports := rfl
@[simp] theorem State.push16_answers (s : State) (v : Word) : (s.push16 v).answers = s.answers := rfl
@[simp] theorem State.push16_portLog (s : State) (v : Word) : (s.push16 v).portLog = s.portLog := rfl
@[simp] theorem State.push16_draws (s : State) (v : Word) : (s.push16 v).draws = s.draws := rfl

@[simp] theorem State.popped_regs (s : State) : (s.popped).regs = s.regs.set16 .sp (s.regs.sp + 2) := rfl
@[simp] theorem State.popped_sregs (s : State) : (s.popped).sregs = s.sregs := rfl
@[simp] theorem State.popped_ip (s : State) : (s.popped).ip = s.ip := rfl
@[simp] theorem State.popped_flags (s : State) : (s.popped).flags = s.flags := rfl
@[simp] theorem State.popped_runState (s : State) : (s.popped).runState = s.runState := rfl
@[simp] theorem State.popped_fault (s : State) : (s.popped).fault = s.fault := rfl
@[simp] theorem State.popped_segOverride (s : State) : (s.popped).segOverride = s.segOverride := rfl
@[simp] theorem State.popped_repMode (s : State) : (s.popped).repMode = s.repMode := rfl
@[simp] theorem State.popped_ip0 (s : State) : (s.popped).ip0 = s.ip0 := rfl
@[simp] theorem State.popped_mem (s : State) : (s.popped).mem = s.mem := rfl
@[simp] theorem State.popped_areas (s : State) : (s.popped).areas = s.areas := rfl
@[simp] theorem State.popped_ports (s : State) : (s.popped).ports = s.ports := rfl
@[simp] theorem State.popped_answers (s : State) : (s.popped).answers = s.answers := rfl
@[simp] theorem State.popped_portLog (s : State) : (s.popped).portLog = s.portLog := rfl
@[simp] theorem State.popped_draws (s : State) : (s.popped).draws = s.draws := rfl

@[simp] theorem State.jumpFar_regs (s : State) (seg off : Word) : (s.jumpFar seg off).regs = s.regs := rfl
@[simp] theorem State.jumpFar_sregs (s : State) (seg off : Word) : (s.jumpFar seg off).sregs = s.sregs.set .cs seg := rfl
@[simp] theorem State.jumpFar_ip (s : State) (seg off : Word) : (s.jumpFar seg off).ip = off := rfl
@[simp] theorem State.jumpFar_flags (s : State) (seg off : Word) : (s.jumpFar seg off).flags = s.flags := rfl
@[simp] theorem State.jumpFar_runState (s : State) (seg off : Word) : (s.jumpFar seg off).runState = s.runState := rfl
@[simp] theorem State.jumpFar_fault (s : State) (seg off : Word) : (s.jumpFar seg off).fault = s.fault := rfl
@[simp] theorem State.jumpFar_segOverride (s : State) (seg off : Word) : (s.jumpFar seg off).segOverride = s.segOverride := rfl
@[simp] theorem State.jumpFar_repMode (s : State) (seg off : Word) : (s.jumpFar seg off).repMode = s.repMode := rfl
@[simp] theorem State.jumpFar_ip0 (s : State) (seg off : Word) : (s.jumpFar seg off).ip0 = s.ip0 := rfl
@[simp] theorem State.jumpFar_mem (s : State) (seg off : Word) : (s.jumpFar seg off).mem = s.mem := rfl
@[simp] theorem State.jumpFar_areas (s : State) (seg off : Word) : (s.jumpFar seg off).areas = s.areas := rfl
@[simp] theorem State.jumpFar_ports (s : State) (seg off : Word) : (s.jumpFar seg off).ports = s.ports := rfl
@[simp] theorem State.jumpFar_answers (s : State) (seg off : Word) : (s.jumpFar seg off).answers = s.answers := rfl
@[simp] theorem State.jumpFar_portLog (s : State) (seg off : Word) : (s.jumpFar seg off).portLog = s.portLog := rfl
@[simp] theorem State.jumpFar_draws (s : State) (seg off : Word) : (s.jumpFar seg off).draws = s.draws := rfl

@[simp] theorem State.raise_regs (s : State) (c : Cause) : (s.raise c).regs = s.regs := rfl
@[simp] theorem State.raise_sregs (s : State) (c : Cause) : (s.raise c).sregs = s.sregs := rfl
@[simp] theorem State.raise_ip (s : State) (c : Cause) : (s.raise c).ip = s.ip := rfl
@[simp] theorem State.raise_flags (s : State) (c : Cause) : (s.raise c).flags = s.flags := rfl
@[simp] theorem State.raise_runState (s : State) (c : Cause) : (s.raise c).runState = .faulted := rfl
@[simp] theorem State.raise_fault (s : State) (c : Cause) : (s.raise c).fault = some ⟨c, s.sregs.cs, s.ip0⟩ := rfl
@[simp] theorem State.raise_segOverride (s : State) (c : Cause) : (s.raise c).segOverride = none := rfl
@[simp] theorem State.raise_repMode (s : State) (c : Cause) : (s.raise c).repMode = none := rfl
@[simp] theorem State.raise_ip0 (s : State) (c : Cause) : (s.raise c).ip0 = s.ip0 := rfl
@[simp] theorem State.raise_mem (s : State) (c : Cause) : (s.raise c).mem = s.mem := rfl
@[simp] theorem State.raise_areas (s : State) (c : Cause) : (s.raise c).areas = s.areas := rfl
@[simp] theorem State.raise_ports (s : State) (c : Cause) : (s.raise c).ports = s.ports := rfl
@[simp] theorem State.raise_answers (s : State) (c : Cause) : (s.raise c).answers = s.answers := rfl
@[simp] theorem State.raise_portLog (s : State) (c : Cause) : (s.raise c).portLog = s.portLog := rfl
@[simp] theorem State.raise_draws (s : State) (c : Cause) : (s.raise c).draws = s.draws := rfl

@[simp] theorem State.callback_regs (s : State) (q : PortRequest) : (s.callback q).regs = s.regs := rfl
@[simp] theorem State.callback_sregs (s : State) (q : PortRequest) : (s.callback q).sregs = s.sregs := rfl
@[simp] theorem State.callback_ip (s : State) (q : PortRequest) : (s.callback q).ip = s.ip := rfl
@[simp] theorem State.callback_flags (s : State) (q : PortRequest) : (s.callback q).flags = s.flags := rfl
@[simp] theorem State.callback_runState (s : State) (q : PortRequest) : (s.callback q).runState = s.runState := rfl
@[simp] theorem State.callback_fault (s : State) (q : PortRequest) : (s.callback q).fault = s.fault := rfl
@[simp] theorem State.callback_segOverride (s : State) (q : PortRequest) : (s.callback q).segOverride = s.segOverride := rfl
@[simp] theorem State.callback_repMode (s : State) (q : PortRequest) : (s.callback q).repMode = s.repMode := rfl
@[simp] theorem State.callback_ip0 (s : State) (q : PortRequest) : (s.callback q).ip0 = s.ip0 := rfl
@[simp] theorem State.callback_mem (s : State) (q : PortRequest) : (s.callback q).mem = (s.answerTo q).writes.foldl (fun m w => memAfterWrite s.areas m w.1 w.2) s.mem := rfl
@[simp] theorem State.callback_areas (s : State) (q : PortRequest) : (s.callback q).areas = s.areas := rfl
@[simp] theorem State.callback_ports (s : State) (q : PortRequest) : (s.callback q).ports = s.ports := rfl
@[simp] theorem State.callback_answers (s : State) (q : PortRequest) : (s.callback q).answers = s.answers.tail := rfl
@[simp] theorem State.callback_portLog (s : State) (q : PortRequest) : (s.callback q).portLog = s.portLog ++ [⟨q, s.answerTo q⟩] := rfl
@[simp] theorem State.callback_draws (s : State) (q : PortRequest) : (s.callback q).draws = if s.answers.isEmpty then s.draws + 1 else s.draws := rfl

@[simp] theorem State.portRead8_regs (s : State) (p : Word) : (s.portRead8 p).regs = s.regs := by unfold State.portRead8; split <;> rfl
@[simp] theorem State.portRead8_sregs (s : State) (p : Word) : (s.portRead8 p).sregs = s.sregs := by unfold State.portRead8; split <;> rfl
@[simp] theorem State.portRead8_ip (s : State) (p : Word) : (s.portRead8 p).ip = s.ip := by unfold State.portRead8; split <;> rfl
@[simp] theorem State.portRead8_flags (s : State) (p : Word) : (s.portRead8 p).flags = s.flags := by unfold State.portRead8; split <;> rfl
@[simp] theorem State.portRead8_runState (s : State) (p : Word) : (s.portRead8 p).runState = s.runState := by unfold State.portRead8; split <;> rfl
@[simp] theorem State.portRead8_fault (s : State) (p : Word) : (s.portRead8 p).fault = s.fault := by unfold State.portRead8; split <;> rfl
@[simp] theorem State.portRead8_segOverride (s : State) (p : Word) : (s.portRead8 p).segOverride = s.segOverride := by unfold State.portRead8; split <;> rfl
@[simp] theorem State.portRead8_repMode (s : State) (p : Word) : (s.portRead8 p).repMode = s.repMode := by unfold State.portRead8; split <;> rfl
@[simp] theorem State.portRead8_ip0 (s : State) (p : Word) : (s.portRead8 p).ip0 = s.ip0 := by unfold State.portRead8; split <;> rfl
@[simp] theorem State.portRead8_areas (s : State) (p : Word) : (s.portRead8 p).areas = s.areas := by unfold State.portRead8; split <;> rfl
@[simp] theorem State.portRead8_ports (s : State) (p : Word) : (s.portRead8 p).ports = s.ports := by unfold State.portRead8; split <;> rfl

@[simp] theorem State.portWrite8_regs (s : State) (p : Word) (v : Byte) : (s.portWrite8 p v).regs = s.regs := by unfold State.portWrite8; split <;> rfl
@[simp] theorem State.portWrite8_sregs (s : State) (p : Word) (v : Byte) : (s.portWrite8 p v).sregs = s.sregs := by unfold State.portWrite8; split <;> rfl
@[simp] theorem State.portWrite8_ip (s : State) (p : Word) (v : Byte) : (s.portWrite8 p v).ip = s.ip := by unfold State.portWrite8; split <;> rfl
@[simp] theorem State.portWrite8_flags (s : State) (p : Word) (v : Byte) : (s.portWrite8 p v).flags = s.flags := by unfold State.portWrite8; split <;> rfl
@[simp] theorem State.portWrite8_runState (s : State) (p : Word) (v : Byte) : (s.portWrite8 p v).runState = s.runState := by unfold State.portWrite8; split <;> rfl
@[simp] theorem State.portWrite8_fault (s : State) (p : Word) (v : Byte) : (s.portWrite8 p v).fault = s.fault := by unfold State.portWrite8; split <;> rfl
@[simp] theorem State.portWrite8_segOverride (s : State) (p : Word) (v : Byte) : (s.portWrite8 p v).segOverride = s.segOverride := by unfold State.portWrite8; split <;> rfl
@[simp] theorem State.portWrite8_repMode (s : State) (p : Word) (v : Byte) : (s.portWrite8 p v).repMode = s.repMode := by unfold State.portWrite8; split <;> rfl
@[simp] theorem State.portWrite8_ip0 (s : State) (p : Word) (v : Byte) : (s.portWrite8 p v).ip0 = s.ip0 := by unfold State.portWrite8; split <;> rfl
@[simp] theorem State.portWrite8_areas (s : State) (p : Word) (v : Byte) : (s.portWrite8 p v).areas = s.areas := by unfold State.portWrite8; split <;> rfl
@[simp] theorem State.portWrite8_ports (s : State) (p : Word) (v : Byte) : (s.portWrite8 p v).ports = s.ports := by unfold State.portWrite8; split <;> rfl

@[simp] theorem State.portRead16_regs (s : State) (p : Word) : (s.portRead16 p).regs = s.regs := by simp [State.portRead16]
@[simp] theorem State.portRead16_sregs (s : State) (p : Word) : (s.portRead16 p).sregs = s.sregs := by simp [State.portRead16]
@[simp] theorem State.portRead16_ip (s : State) (p : Word) : (s.portRead16 p).ip = s.ip := by simp [State.portRead16]
@[simp] theorem State.portRead16_flags (s : State) (p : Word) : (s.portRead16 p).flags = s.flags := by simp [State.portRead16]
@[simp] theorem State.portRead16_runState (s : State) (p : Word) : (s.portRead16 p).runState = s.runState := by simp [State.portRead16]
@[simp] theorem State.portRead16_fault (s : State) (p : Word) : (s.portRead16 p).fault = s.fault := by simp [State.portRead16]
@[simp] theorem State.portRead16_segOverride (s : State) (p : Word) : (s.portRead16 p).segOverride = s.segOverride := by simp [State.portRead16]
@[simp] theorem State.portRead16_repMode (s : State) (p : Word) : (s.portRead16 p).repMode = s.repMode := by simp [State.portRead16]
@[simp] theorem State.portRead16_ip0 (s : State) (p : Word) : (s.portRead16 p).ip0 = s.ip0 := by simp [State.portRead16]
@[simp] theorem State.portRead16_areas (s : State) (p : Word) : (s.portRead16 p).areas = s.areas := by simp [State.portRead16]
@[simp] theorem State.portRead16_ports (s : State) (p : Word) : (s.portRead16 p).ports = s.ports := by simp [State.portRead16]

@[simp] theorem State.portWrite16_regs (s : State) (p v : Word) : (s.portWrite16 p v).regs = s.regs := by simp [State.portWrite16]
@[simp] theorem State.portWrite16_sregs (s : State) (p v : Word) : (s.portWrite16 p v).sregs = s.sregs := by simp [State.portWrite16]
@[simp] theorem State.portWrite16_ip (s : State) (p v : Word) : (s.portWrite16 p v).ip = s.ip := by simp [State.portWrite16]
@[simp] theorem State.portWrite16_flags (s : State) (p v : Word) : (s.portWrite16 p v).flags = s.flags := by simp [State.portWrite16]
@[simp] theorem State.portWrite16_runState (s : State) (p v : Word) : (s.portWrite16 p v).runState = s.runState := by simp [State.portWrite16]
@[simp] theorem State.portWrite16_fault (s : State) (p v : Word) : (s.portWrite16 p v).fault = s.fault := by simp [State.portWrite16]
@[simp] theorem State.portWrite16_segOverride (s : State) (p v : Word) : (s.portWrite16 p v).segOverride = s.segOverride := by simp [State.portWrite16]
@[simp] theorem State.portWrite16_repMode (s : State) (p v : Word) : (s.portWrite16 p v).repMode = s.repMode := by simp [State.portWrite16]
@[simp] theorem State.portWrite16_ip0 (s : State) (p v : Word) : (s.portWrite16 p v).ip0 = s.ip0 := by simp [State.portWrite16]
@[simp] theorem State.portWrite16_areas (s : State) (p v : Word) : (s.portWrite16 p v).areas = s.areas := by simp [State.portWrite16]
@[simp] theorem State.portWrite16_ports (s : State) (p v : Word) : (s.portWrite16 p v).ports = s.ports := by simp [State.portWrite16]

@[simp] theorem State.jumpRelative_regs (s : State) (c : Bool) (d : Word) : (s.jumpRelative c d).regs = s.regs := by unfold State.jumpRelative; split <;> rfl
@[simp] theorem State.jumpRelative_sregs (s : State) (c : Bool) (d : Word) : (s.jumpRelative c d).sregs = s.sregs := by unfold State.jumpRelative; split <;> rfl
@[simp] theorem State.jumpRelative_flags (s : State) (c : Bool) (d : Word) : (s.jumpRelative c d).flags = s.flags := by unfold State.jumpRelative; split <;> rfl
@[simp] theorem State.jumpRelative_runState (s : State) (c : Bool) (d : Word) : (s.jumpRelative c d).runState = s.runState := by unfold State.jumpRelative; split <;> rfl
@[simp] theorem State.jumpRelative_fault (s : State) (c : Bool) (d : Word) : (s.jumpRelative c d).fault = s.fault := by unfold State.jumpRelative; split <;> rfl
@[simp] theorem State.jumpRelative_segOverride (s : State) (c : Bool) (d : Word) : (s.jumpRelative c d).segOverride = s.segOverride := by unfold State.jumpRelative; split <;> rfl
@[simp] theorem State.jumpRelative_repMode (s : State) (c : Bool) (d : Word) : (s.jumpRelative c d).repMode = s.repMode := by unfold State.jumpRelative; split <;> rfl
@[simp] theorem State.jumpRelative_ip0 (s : State) (c : Bool) (d : Word) : (s.jumpRelative c d).ip0 = s.ip0 := by unfold State.jumpRelative; split <;> rfl
@[simp] theorem State.jumpRelative_mem (s : State) (c : Bool) (d : Word) : (s.jumpRelative c d).mem = s.mem := by unfold State.jumpRelative; split <;> rfl
@[simp] theorem State.jumpRelative_areas (s : State) (c : Bool) (d : Word) : (s.jumpRelative c d).areas = s.areas := by unfold State.jumpRelative; split <;> rfl
@[simp] theorem State.jumpRelative_ports (s : State) (c : Bool) (d : Word) : (s.jumpRelative c d).ports = s.ports := by unfold State.jumpRelative; split <;> rfl
@[simp] theorem State.jumpRelative_answers (s : State) (c : Bool) (d : Word) : (s.jumpRelative c d).answers = s.answers := by unfold State.jumpRelative; split <;> rfl
@[simp] theorem State.jumpRelative_portLog (s : State) (c : Bool) (d : Word) : (s.jumpRelative c d).portLog = s.portLog := by unfold State.jumpRelative; split <;> rfl
@[simp] theorem State.jumpRelative_draws (s : State) (c : Bool) (d : Word) : (s.jumpRelative c d).draws = s.draws := by unfold State.jumpRelative; split <;> rfl

@[simp] theorem State.writeRm8_sregs (s : State) (rm : Rm Reg8) (v : Byte) : (s.writeRm8 rm v).sregs = s.sregs := by cases rm <;> rfl
@[simp] theorem State.writeRm8_ip (s : State) (rm : Rm Reg8) (v : Byte) : (s.writeRm8 rm v).ip = s.ip := by cases rm <;> rfl
@[simp] theorem State.writeRm8_flags (s : State) (rm : Rm Reg8) (v : Byte) : (s.writeRm8 rm v).flags = s.flags := by cases rm <;> rfl
@[simp] theorem State.writeRm8_runState (s : State) (rm : Rm Reg8) (v : Byte) : (s.writeRm8 rm v).runState = s.runState := by cases rm <;> rfl
@[simp] theorem State.writeRm8_fault (s : State) (rm : Rm Reg8) (v : Byte) : (s.writeRm8 rm v).fault = s.fault := by cases rm <;> rfl
@[simp] theorem State.writeRm8_segOverride (s : State) (rm : Rm Reg8) (v : Byte) : (s.writeRm8 rm v).segOverride = s.segOverride := by cases rm <;> rfl
@[simp] theorem State.writeRm8_repMode (s : State) (rm : Rm Reg8) (v : Byte) : (s.writeRm8 rm v).repMode = s.repMode := by cases rm <;> rfl
@[simp] theorem State.writeRm8_ip0 (s : State) (rm : Rm Reg8) (v : Byte) : (s.writeRm8 rm v).ip0 = s.ip0 := by cases rm <;> rfl
@[simp] theorem State.writeRm8_areas (s : State) (rm : Rm Reg8) (v : Byte) : (s.writeRm8 rm v).areas = s.areas := by cases rm <;> rfl
@[simp] theorem State.writeRm8_ports (s : State) (rm : Rm Reg8) (v : Byte) : (s.writeRm8 rm v).ports = s.ports := by cases rm <;> rfl
@[simp] theorem State.writeRm8_answers (s : State) (rm : Rm Reg8) (v : Byte) : (s.writeRm8 rm v).answers = s.answers := by cases rm <;> rfl
@[simp] theorem State.writeRm8_portLog (s : State) (rm : Rm Reg8) (v : Byte) : (s.writeRm8 rm v).portLog = s.portLog := by cases rm <;> rfl
@[simp] theorem State.writeRm8_draws (s : State) (rm : Rm Reg8) (v : Byte) : (s.writeRm8 rm v).draws = s.draws := by cases rm <;> rfl

@[simp] theorem State.writeRm16_sregs (s : State) (rm : Rm Reg16) (v : Word) : (s.writeRm16 rm v).sregs = s.sregs := by cases rm <;> rfl
@[simp] theorem State.writeRm16_ip (s : State) (rm : Rm Reg16) (v : Word) : (s.writeRm16 rm v).ip = s.ip := by cases rm <;> rfl
@[simp] theorem State.writeRm16_flags (s : State) (rm : Rm Reg16) (v : Word) : (s.writeRm16 rm v).flags = s.flags := by cases rm <;> rfl
@[simp] theorem State.writeRm16_runState (s : State) (rm : Rm Reg16) (v : Word) : (s.writeRm16 rm v).runState = s.runState := by cases rm <;> rfl
@[simp] theorem State.writeRm16_fault (s : State) (rm : Rm Reg16) (v : Word) : (s.writeRm16 rm v).fault = s.fault := by cases rm <;> rfl
@[simp] theorem State.writeRm16_segOverride (s : State) (rm : Rm Reg16) (v : Word) : (s.writeRm16 rm v).segOverride = s.segOverride := by cases rm <;> rfl
@[simp] theorem State.writeRm16_repMode (s : State) (rm : Rm Reg16) (v : Word) : (s.writeRm16 rm v).repMode = s.repMode := by cases rm <;> rfl
@[simp] theorem State.writeRm16_ip0 (s : State) (rm : Rm Reg16) (v : Word) : (s.writeRm16 rm v).ip0 = s.ip0 := by cases rm <;> rfl
@[simp] theorem State.writeRm16_areas (s : State) (rm : Rm Reg16) (v : Word) : (s.writeRm16 rm v).areas = s.areas := by cases rm <;> rfl
@[simp] theorem State.writeRm16_ports (s : State) (rm : Rm Reg16) (v : Word) : (s.writeRm16 rm v).ports = s.ports := by cases rm <;> rfl
@[simp] theorem State.writeRm16_answers (s : State) (rm : Rm Reg16) (v : Word) : (s.writeRm16 rm v).answers = s.answers := by cases rm <;> rfl
@[simp] theorem State.writeRm16_portLog (s : State) (rm : Rm Reg16) (v : Word) : (s.writeRm16 rm v).portLog = s.portLog := by cases rm <;> rfl
@[simp] theorem State.writeRm16_draws (s : State) (rm : Rm Reg16) (v : Word) : (s.writeRm16 rm v).draws = s.draws := by cases rm <;> rfl

end Sys2Proof.Machine
end

