-- ==== Sys2Proof/Laws/Memory.lean ====
section
/-! SUPPORT. The byte store: a read after a write, the canonical form, and that every operation that stores keeps it. -/

namespace Sys2Proof.Machine

/-! ### One read, one write -/

theorem Memory.wfFrom_mono {lo lo' : Nat} (h : lo ≤ lo') {m : List Host.Cell} (hm : Memory.wfFrom lo' m = true) :
    Memory.wfFrom lo m = true := by
  cases m with
  | nil => rfl
  | cons c m =>
    obtain ⟨b, w⟩ := c
    simp only [Memory.wfFrom, Bool.and_eq_true, decide_eq_true_eq] at hm ⊢
    exact ⟨⟨⟨by omega, hm.1.1.2⟩, hm.1.2⟩, hm.2⟩

/-- An address below every cell holds the unlisted byte. -/
theorem Memory.read_of_wfFrom {m : List Host.Cell} {lo a : Nat} (hm : Memory.wfFrom lo m = true) (ha : a < lo) :
    Memory.read m a = Memory.unlisted := by
  induction m generalizing lo with
  | nil => rfl
  | cons c m ih =>
    obtain ⟨b, w⟩ := c
    simp only [Memory.wfFrom, Bool.and_eq_true, decide_eq_true_eq] at hm
    simp only [Memory.read]
    rw [if_neg (by omega)]
    exact ih hm.2 (by omega)

theorem Memory.read_write_other (m : List Host.Cell) {a x : Nat} (v : Byte) (h : x ≠ a) :
    Memory.read (Memory.write m a v) x = Memory.read m x := by
  induction m with
  | nil =>
    simp only [Memory.write]
    split <;> simp [Memory.read, h]
  | cons c m ih =>
    obtain ⟨b, w⟩ := c
    simp only [Memory.write]
    split
    · split <;> simp [Memory.read, h]
    · split
      · subst b
        split <;> simp [Memory.read, h]
      · simp [Memory.read, ih]

theorem Memory.read_write_same {m : List Host.Cell} {lo : Nat} (hm : Memory.wfFrom lo m = true) (a : Nat) (v : Byte) :
    Memory.read (Memory.write m a v) a = v := by
  induction m generalizing lo with
  | nil =>
    simp only [Memory.write]
    split <;> simp_all [Memory.read]
  | cons c m ih =>
    obtain ⟨b, w⟩ := c
    have hm' := hm
    simp only [Memory.wfFrom, Bool.and_eq_true, decide_eq_true_eq] at hm
    simp only [Memory.write]
    split
    · rename_i hab
      split
      · rename_i hv
        have hb : Memory.wfFrom b ((b, w) :: m) = true := by simp_all [Memory.wfFrom]
        rw [Memory.read_of_wfFrom hb hab, hv]
      · simp [Memory.read]
    · split
      · subst b
        split
        · rename_i hv
          rw [Memory.read_of_wfFrom hm.2 (by omega), hv]
        · simp [Memory.read]
      · simp [Memory.read, ‹¬a = b›, ih hm.2]

theorem Memory.wfFrom_write {m : List Host.Cell} {lo a : Nat} (hm : Memory.wfFrom lo m = true) (v : Byte) (ha : a < 2 ^ 20)
    (hlo : lo ≤ a) : Memory.wfFrom lo (Memory.write m a v) = true := by
  induction m generalizing lo with
  | nil =>
    simp only [Memory.write]
    split <;> simp_all [Memory.wfFrom]
  | cons c m ih =>
    obtain ⟨b, w⟩ := c
    have hm' := hm
    simp only [Memory.wfFrom, Bool.and_eq_true, decide_eq_true_eq] at hm
    simp only [Memory.write]
    split
    · split
      · exact hm'
      · simp_all [Memory.wfFrom]
    · split
      · subst b
        split
        · exact Memory.wfFrom_mono (by omega) hm.2
        · simp_all [Memory.wfFrom]
      · simp only [Memory.wfFrom, Bool.and_eq_true, decide_eq_true_eq]
        exact ⟨hm.1, ih hm.2 (by omega)⟩

theorem Memory.wf_write {m : List Host.Cell} (hm : Memory.wf m = true) {a : Nat} (v : Byte) (ha : a < 2 ^ 20) :
    Memory.wf (Memory.write m a v) = true :=
  Memory.wfFrom_write hm v ha (Nat.zero_le a)

theorem Memory.read_write {m : List Host.Cell} (hm : Memory.wf m = true) (a x : Nat) (v : Byte) :
    Memory.read (Memory.write m a v) x = if x = a then v else Memory.read m x := by
  split
  · subst x
    exact Memory.read_write_same hm a v
  · exact Memory.read_write_other m v ‹_›

/-- Equal memories are equal data: the canonical form is determined by what it reads as. -/
theorem Memory.eq_of_read {m m' : List Host.Cell} {lo : Nat} (hm : Memory.wfFrom lo m = true)
    (hm' : Memory.wfFrom lo m' = true) (h : ∀ a, Memory.read m a = Memory.read m' a) : m = m' := by
  induction m generalizing lo m' with
  | nil =>
    cases m' with
    | nil => rfl
    | cons c m' =>
      obtain ⟨b, w⟩ := c
      have := h b
      simp_all [Memory.wfFrom, Memory.read]
  | cons c m ih =>
    obtain ⟨b, w⟩ := c
    cases m' with
    | nil =>
      have := h b
      simp_all [Memory.wfFrom, Memory.read]
    | cons c' m' =>
      obtain ⟨b', w'⟩ := c'
      simp only [Memory.wfFrom, Bool.and_eq_true, decide_eq_true_eq, Bool.not_eq_true', decide_eq_false_iff_not] at hm hm'
      have hbb : b = b' := by
        rcases Nat.lt_trichotomy b b' with hlt | heq | hgt
        · have hb := h b
          simp only [Memory.read, if_true] at hb
          rw [if_neg (by omega), Memory.read_of_wfFrom hm'.2 (by omega)] at hb
          exact absurd hb hm.1.2
        · exact heq
        · have hb := h b'
          simp only [Memory.read, if_true] at hb
          rw [if_neg (by omega), Memory.read_of_wfFrom hm.2 (by omega)] at hb
          exact absurd hb.symm hm'.1.2
      subst b'
      have hww : w = w' := by simpa [Memory.read] using h b
      subst w'
      congr 1
      refine ih hm.2 hm'.2 fun a => ?_
      by_cases hab : a = b
      · subst a
        rw [Memory.read_of_wfFrom hm.2 (by omega), Memory.read_of_wfFrom hm'.2 (by omega)]
      · simpa [Memory.read, hab] using h a

/-! ### Stores on the bus -/

theorem wf_memAfterWrite {m : List Host.Cell} (hm : Memory.wf m = true) (areas : List MemArea) (pa : Addr) (v : Byte) :
    Memory.wf (memAfterWrite areas m pa v) = true := by
  unfold memAfterWrite
  split
  · exact Memory.wf_write hm v pa.isLt
  · exact hm

/-- What the areas hold after a byte write on the bus. -/
theorem read_memAfterWrite {m : List Host.Cell} (hm : Memory.wf m = true) (areas : List MemArea) (pa x : Addr) (v : Byte) :
    Memory.read (memAfterWrite areas m pa v) x.toNat =
      if x = pa ∧ isWritable areas pa = true then v else Memory.read m x.toNat := by
  unfold memAfterWrite
  split
  · rename_i hw
    rw [Memory.read_write hm]
    simp [hw, BitVec.toNat_inj]
  · rename_i hw
    simp [hw]

theorem wf_foldWrites {m : List Host.Cell} (hm : Memory.wf m = true) (areas : List MemArea) (ws : List (Addr × Byte)) :
    Memory.wf (ws.foldl (fun m w => memAfterWrite areas m w.1 w.2) m) = true := by
  induction ws generalizing m with
  | nil => exact hm
  | cons w ws ih => exact ih (wf_memAfterWrite hm areas w.1 w.2)

/-- A list of writes leaves every byte alone that is not writable. -/
theorem read_foldWrites {m : List Host.Cell} (hm : Memory.wf m = true) (areas : List MemArea) (ws : List (Addr × Byte))
    {x : Addr} (hx : isWritable areas x = false) :
    Memory.read (ws.foldl (fun m w => memAfterWrite areas m w.1 w.2) m) x.toNat = Memory.read m x.toNat := by
  induction ws generalizing m with
  | nil => rfl
  | cons w ws ih =>
    rw [List.foldl_cons, ih (wf_memAfterWrite hm areas w.1 w.2), read_memAfterWrite hm]
    rw [if_neg]
    rintro ⟨rfl, h⟩
    simp [hx] at h

/-! ### The canonical form is kept by every operation that stores -/

theorem State.busWrite8_wf {s : State} (h : Memory.wf s.mem = true) (pa : Addr) (v : Byte) :
    Memory.wf (s.busWrite8 pa v).mem = true := wf_memAfterWrite h _ _ _

theorem State.memWrite16_wf {s : State} (h : Memory.wf s.mem = true) (pa : Addr) (v : Word) :
    Memory.wf (s.memWrite16 pa v).mem = true := wf_memAfterWrite (wf_memAfterWrite h _ _ _) _ _ _

theorem State.store8_wf {s : State} (h : Memory.wf s.mem = true) (seg off : Word) (v : Byte) :
    Memory.wf (s.store8 seg off v).mem = true := State.busWrite8_wf h _ _

theorem State.store16_wf {s : State} (h : Memory.wf s.mem = true) (seg off v : Word) :
    Memory.wf (s.store16 seg off v).mem = true := State.memWrite16_wf h _ _

theorem State.push16_wf {s : State} (h : Memory.wf s.mem = true) (v : Word) : Memory.wf (s.push16 v).mem = true :=
  State.store16_wf (s := s.setR16 .sp (s.regs.sp - 2)) h _ _ _

theorem State.callback_wf {s : State} (h : Memory.wf s.mem = true) (q : PortRequest) :
    Memory.wf (s.callback q).mem = true := wf_foldWrites h _ _

theorem State.portRead8_wf {s : State} (h : Memory.wf s.mem = true) (p : Word) : Memory.wf (s.portRead8 p).mem = true := by
  unfold State.portRead8
  split
  · exact State.callback_wf h _
  · exact h

theorem State.portWrite8_wf {s : State} (h : Memory.wf s.mem = true) (p : Word) (v : Byte) :
    Memory.wf (s.portWrite8 p v).mem = true := by
  unfold State.portWrite8
  split
  · exact State.callback_wf h _
  · exact h

theorem State.portRead16_wf {s : State} (h : Memory.wf s.mem = true) (p : Word) : Memory.wf (s.portRead16 p).mem = true :=
  State.portRead8_wf (State.portRead8_wf h _) _

theorem State.portWrite16_wf {s : State} (h : Memory.wf s.mem = true) (p v : Word) :
    Memory.wf (s.portWrite16 p v).mem = true :=
  State.portWrite8_wf (State.portWrite8_wf h _ _) _ _

theorem State.writeRm8_wf {s : State} (h : Memory.wf s.mem = true) (rm : Rm Reg8) (v : Byte) :
    Memory.wf (s.writeRm8 rm v).mem = true := by
  cases rm with
  | reg r => exact h
  | mem m => exact State.store8_wf h _ _ _

theorem State.writeRm16_wf {s : State} (h : Memory.wf s.mem = true) (rm : Rm Reg16) (v : Word) :
    Memory.wf (s.writeRm16 rm v).mem = true := by
  cases rm with
  | reg r => exact h
  | mem m => exact State.store16_wf h _ _ _

/-! ### What the areas hold after a store -/

theorem State.byteAt_busWrite8 {s : State} (h : Memory.wf s.mem = true) (pa x : Addr) (v : Byte) :
    (s.busWrite8 pa v).byteAt x = if x = pa ∧ isWritable s.areas pa = true then v else s.byteAt x :=
  read_memAfterWrite h _ _ _ _

/-- Two bytes, each routed on its own; the addresses differ, so neither covers the other. -/
theorem State.byteAt_memWrite16 {s : State} (h : Memory.wf s.mem = true) (pa x : Addr) (v : Word) :
    (s.memWrite16 pa v).byteAt x =
      if x = pa ∧ isWritable s.areas x = true then lowByte v
      else if x = pa + 1 ∧ isWritable s.areas x = true then highByte v else s.byteAt x := by
  unfold State.memWrite16
  rw [State.byteAt_busWrite8 (State.busWrite8_wf h _ _), State.byteAt_busWrite8 h]
  have hne : pa ≠ pa + 1 := by bv_omega
  by_cases h1 : x = pa + 1
  · subst x
    have h2 : ¬ pa + 1 = pa := fun e => hne e.symm
    simp only [h2, true_and, false_and, if_false, State.busWrite8_areas]
  · by_cases h2 : x = pa
    · subst x
      simp only [hne, true_and, false_and, if_false]
    · simp only [h1, h2, false_and, if_false]

theorem State.byteAt_store8 {s : State} (h : Memory.wf s.mem = true) (seg off : Word) (x : Addr) (v : Byte) :
    (s.store8 seg off v).byteAt x =
      if x = phys seg off ∧ isWritable s.areas x = true then v else s.byteAt x := by
  unfold State.store8
  rw [State.byteAt_busWrite8 h]
  by_cases hx : x = phys seg off
  · subst x; rfl
  · simp [hx]

theorem State.byteAt_store16 {s : State} (h : Memory.wf s.mem = true) (seg off v : Word) (x : Addr) :
    (s.store16 seg off v).byteAt x =
      if x = phys seg off ∧ isWritable s.areas x = true then lowByte v
      else if x = phys seg off + 1 ∧ isWritable s.areas x = true then highByte v else s.byteAt x :=
  State.byteAt_memWrite16 h _ _ _

/-- The state after construction holds a canonical memory. -/
theorem reset_wf : Memory.wf State.reset.mem = true := rfl

end Sys2Proof.Machine
end

