-- ==== Sys2Proof/Laws/Exec.lean ====
section
/-! SUPPORT. What an instruction can do, said once: every meaning answers a next state, and that state is a fault raised
at once, the halt, or reached by a chain of primitive updates (`Reach`); so whatever those keep, every instruction
keeps. -/

namespace Sys2Proof.Machine

/-- The primitive updates the effect of an instruction that goes on is made of. -/
inductive Reach (s : State) : State → Prop where
  | start : Reach s s
  | regs {t : State} (g : Regs) : Reach s t → Reach s { t with regs := g }
  | sregs {t : State} (g : SegRegs) : Reach s t → Reach s { t with sregs := g }
  | ip {t : State} (v : Word) : Reach s t → Reach s { t with ip := v }
  | flags {t : State} (f : Flags) : Reach s t → Reach s { t with flags := f }
  | draws {t : State} (n : Nat) : Reach s t → Reach s { t with draws := n }
  | write {t : State} (pa : Addr) (v : Byte) : Reach s t → Reach s (t.busWrite8 pa v)
  | device {t : State} (q : PortRequest) : Reach s t → Reach s (t.callback q)
  | override {t : State} (o : Option Sreg) : Reach s t → Reach s { t with segOverride := o }
  | rep {t : State} (m : Option RepMode) : Reach s t → Reach s { t with repMode := m }

theorem Reach.setR16 {s t : State} (r : Reg16) (v : Word) (h : Reach s t) : Reach s (t.setR16 r v) := .regs _ h
theorem Reach.setR8 {s t : State} (r : Reg8) (v : Byte) (h : Reach s t) : Reach s (t.setR8 r v) := .regs _ h
theorem Reach.setSr {s t : State} (r : Sreg) (v : Word) (h : Reach s t) : Reach s (t.setSr r v) := .sregs _ h
theorem Reach.setIp {s t : State} (v : Word) (h : Reach s t) : Reach s (t.setIp v) := .ip _ h
theorem Reach.setFlags {s t : State} (f : Flags) (h : Reach s t) : Reach s (t.setFlags f) := .flags _ h
theorem Reach.drew {s t : State} (n : Nat) (h : Reach s t) : Reach s (t.drew n) := .draws _ h
theorem Reach.store8 {s t : State} (seg off : Word) (v : Byte) (h : Reach s t) : Reach s (t.store8 seg off v) := .write _ _ h
theorem Reach.store16 {s t : State} (seg off v : Word) (h : Reach s t) : Reach s (t.store16 seg off v) :=
  .write _ _ (.write _ _ h)
theorem Reach.push16 {s t : State} (v : Word) (h : Reach s t) : Reach s (t.push16 v) := .store16 _ _ _ (.setR16 _ _ h)
theorem Reach.popped {s t : State} (h : Reach s t) : Reach s t.popped := .setR16 _ _ h
theorem Reach.jumpFar {s t : State} (seg off : Word) (h : Reach s t) : Reach s (t.jumpFar seg off) := .setSr _ _ (.setIp _ h)
theorem Reach.setDxAx {s t : State} (p : BitVec 32) (h : Reach s t) : Reach s (t.setDxAx p) := .setR16 _ _ (.setR16 _ _ h)
theorem Reach.advanceSi {s t : State} (n : Word) (h : Reach s t) : Reach s (t.advanceSi n) := .setR16 _ _ h
theorem Reach.advanceDi {s t : State} (n : Word) (h : Reach s t) : Reach s (t.advanceDi n) := .setR16 _ _ h
theorem Reach.decCx {s t : State} (h : Reach s t) : Reach s t.decCx := .setR16 _ _ h
theorem Reach.addSp {s t : State} (n : Word) (h : Reach s t) : Reach s (t.addSp n) := .setR16 _ _ h
theorem Reach.divided {s t : State} (h : Reach s t) : Reach s t.divided := .drew _ (.setFlags _ h)

theorem Reach.writeRm8 {s t : State} (rm : Rm Reg8) (v : Byte) (h : Reach s t) : Reach s (t.writeRm8 rm v) := by
  cases rm with
  | reg r => exact .setR8 _ _ h
  | mem m => exact .store8 _ _ _ h

theorem Reach.writeRm16 {s t : State} (rm : Rm Reg16) (v : Word) (h : Reach s t) : Reach s (t.writeRm16 rm v) := by
  cases rm with
  | reg r => exact .setR16 _ _ h
  | mem m => exact .store16 _ _ _ h

theorem Reach.jumpRelative {s t : State} (c : Bool) (d : Word) (h : Reach s t) : Reach s (t.jumpRelative c d) := by
  unfold State.jumpRelative
  split
  · exact .setIp _ h
  · exact h

theorem Reach.portRead8 {s t : State} (p : Word) (h : Reach s t) : Reach s (t.portRead8 p) := by
  unfold State.portRead8
  split
  · exact .device _ h
  · exact h

theorem Reach.portWrite8 {s t : State} (p : Word) (v : Byte) (h : Reach s t) : Reach s (t.portWrite8 p v) := by
  unfold State.portWrite8
  split
  · exact .device _ h
  · exact h

theorem Reach.portRead16 {s t : State} (p : Word) (h : Reach s t) : Reach s (t.portRead16 p) := .portRead8 _ (.portRead8 _ h)
theorem Reach.portWrite16 {s t : State} (p v : Word) (h : Reach s t) : Reach s (t.portWrite16 p v) :=
  .portWrite8 _ _ (.portWrite8 _ _ h)

theorem Reach.alu8 {s t : State} (k : Alu) (dst : Rm Reg8) (b : Byte) (h : Reach s t) : Reach s (alu8 k dst b t) := by
  cases k <;> first | exact .writeRm8 _ _ (.drew _ (.setFlags _ h)) | exact .drew _ (.setFlags _ h)

theorem Reach.alu16 {s t : State} (k : Alu) (dst : Rm Reg16) (b : Word) (h : Reach s t) : Reach s (alu16 k dst b t) := by
  cases k <;> first | exact .writeRm16 _ _ (.drew _ (.setFlags _ h)) | exact .drew _ (.setFlags _ h)

theorem Reach.test8 {s t : State} (a b : Byte) (h : Reach s t) : Reach s (test8 a b t) := .drew _ (.setFlags _ h)
theorem Reach.test16 {s t : State} (a b : Word) (h : Reach s t) : Reach s (test16 a b t) := .drew _ (.setFlags _ h)

theorem Reach.shift8 {s t : State} (k : Shift) (rm : Rm Reg8) (n : Nat) (h : Reach s t) : Reach s (shift8 k rm n t) :=
  .writeRm8 _ _ (.drew _ (.setFlags _ h))
theorem Reach.shift16 {s t : State} (k : Shift) (rm : Rm Reg16) (n : Nat) (h : Reach s t) : Reach s (shift16 k rm n t) :=
  .writeRm16 _ _ (.drew _ (.setFlags _ h))

theorem Reach.inc8 {s t : State} (rm : Rm Reg8) (h : Reach s t) : Reach s (inc8 rm t) := .writeRm8 _ _ (.setFlags _ h)
theorem Reach.inc16 {s t : State} (rm : Rm Reg16) (h : Reach s t) : Reach s (inc16 rm t) := .writeRm16 _ _ (.setFlags _ h)
theorem Reach.dec8 {s t : State} (rm : Rm Reg8) (h : Reach s t) : Reach s (dec8 rm t) := .writeRm8 _ _ (.setFlags _ h)
theorem Reach.dec16 {s t : State} (rm : Rm Reg16) (h : Reach s t) : Reach s (dec16 rm t) := .writeRm16 _ _ (.setFlags _ h)
theorem Reach.neg8 {s t : State} (rm : Rm Reg8) (h : Reach s t) : Reach s (neg8 rm t) := .writeRm8 _ _ (.setFlags _ h)
theorem Reach.neg16 {s t : State} (rm : Rm Reg16) (h : Reach s t) : Reach s (neg16 rm t) := .writeRm16 _ _ (.setFlags _ h)

theorem Reach.mul8 {s t : State} (b : Byte) (h : Reach s t) : Reach s (mul8 b t) := .setR16 _ _ (.drew _ (.setFlags _ h))
theorem Reach.mul16 {s t : State} (b : Word) (h : Reach s t) : Reach s (mul16 b t) := .setDxAx _ (.drew _ (.setFlags _ h))
theorem Reach.imul8 {s t : State} (b : Byte) (h : Reach s t) : Reach s (imul8 b t) := .setR16 _ _ (.drew _ (.setFlags _ h))
theorem Reach.imul16 {s t : State} (b : Word) (h : Reach s t) : Reach s (imul16 b t) := .setDxAx _ (.drew _ (.setFlags _ h))

/-- A division raises at once, or goes on. -/
def Divides (s t : State) : Prop := t = s.raise .divideError ∨ Reach s t

theorem div8_divides (d : Byte) (s : State) : Divides s (div8 d s) := by
  unfold div8
  dsimp only
  split
  · exact .inl rfl
  · split
    · exact .inl rfl
    · exact .inr (.setR8 _ _ (.setR8 _ _ (.divided .start)))

theorem div16_divides (d : Word) (s : State) : Divides s (div16 d s) := by
  unfold div16
  dsimp only
  split
  · exact .inl rfl
  · split
    · exact .inl rfl
    · exact .inr (.setR16 _ _ (.setR16 _ _ (.divided .start)))

theorem idiv8_divides (d : Byte) (s : State) : Divides s (idiv8 d s) := by
  unfold idiv8
  dsimp only
  split
  · exact .inl rfl
  · split
    · exact .inl rfl
    · exact .inr (.setR8 _ _ (.setR8 _ _ (.divided .start)))

theorem idiv16_divides (d : Word) (s : State) : Divides s (idiv16 d s) := by
  unfold idiv16
  dsimp only
  split
  · exact .inl rfl
  · split
    · exact .inl rfl
    · exact .inr (.setR16 _ _ (.setR16 _ _ (.divided .start)))

theorem Reach.callFarTo {s t : State} (seg off : Word) (h : Reach s t) : Reach s (callFarTo seg off t) :=
  .jumpFar _ _ (.push16 _ (.push16 _ h))
theorem Reach.retNear {s t : State} (h : Reach s t) : Reach s (retNear t) := .setIp _ (.popped h)
theorem Reach.retFar {s t : State} (h : Reach s t) : Reach s (retFar t) := .jumpFar _ _ (.popped (.popped h))
theorem Reach.loopIf {s t : State} (c : Bool) (cb : Byte) (h : Reach s t) : Reach s (loopIf c cb t) :=
  .jumpRelative _ _ (.decCx h)
theorem Reach.jcc {s t : State} (cc : BitVec 4) (cb : Byte) (h : Reach s t) : Reach s (jcc cc cb t) := .jumpRelative _ _ h

/-! ### Strings -/

theorem Reach.movsElement8 {s t : State} (h : Reach s t) : Reach s (movsElement8 t) :=
  .advanceDi _ (.advanceSi _ (.store8 _ _ _ h))
theorem Reach.movsElement16 {s t : State} (h : Reach s t) : Reach s (movsElement16 t) :=
  .advanceDi _ (.advanceSi _ (.store16 _ _ _ h))
theorem Reach.cmpsElement8 {s t : State} (h : Reach s t) : Reach s (cmpsElement8 t) :=
  .advanceDi _ (.advanceSi _ (.setFlags _ h))
theorem Reach.cmpsElement16 {s t : State} (h : Reach s t) : Reach s (cmpsElement16 t) :=
  .advanceDi _ (.advanceSi _ (.setFlags _ h))
theorem Reach.stosElement8 {s t : State} (h : Reach s t) : Reach s (stosElement8 t) := .advanceDi _ (.store8 _ _ _ h)
theorem Reach.stosElement16 {s t : State} (h : Reach s t) : Reach s (stosElement16 t) := .advanceDi _ (.store16 _ _ _ h)
theorem Reach.lodsElement8 {s t : State} (h : Reach s t) : Reach s (lodsElement8 t) := .advanceSi _ (.setR8 _ _ h)
theorem Reach.lodsElement16 {s t : State} (h : Reach s t) : Reach s (lodsElement16 t) := .advanceSi _ (.setR16 _ _ h)
theorem Reach.scasElement8 {s t : State} (h : Reach s t) : Reach s (scasElement8 t) := .advanceDi _ (.setFlags _ h)
theorem Reach.scasElement16 {s t : State} (h : Reach s t) : Reach s (scasElement16 t) := .advanceDi _ (.setFlags _ h)

/-- A relation that one element and a decrement of CX keep is kept by the whole repeat loop. -/
theorem repeatLoop_keeps {P : State → Prop} {element : State → State} (he : ∀ t, P t → P (element t).decCx)
    (compares : Bool) (m : RepMode) (n : Nat) {t : State} (h : P t) : P (repeatLoop compares m element n t) := by
  induction n generalizing t with
  | zero => exact h
  | succ n ih =>
    simp only [repeatLoop]
    split
    · exact he t h
    · exact ih (he t h)

theorem Reach.stringOp {s t : State} {element : State → State} (he : ∀ t, Reach s t → Reach s (element t))
    (compares : Bool) (h : Reach s t) : Reach s (stringOp compares element t) := by
  unfold Sys2Proof.Machine.stringOp
  split
  · exact he _ h
  · exact repeatLoop_keeps (P := Reach s) (fun t ht => .decCx (he t ht)) _ _ _ h

/-! ### Every instruction -/

/-- What the next state of an instruction is. -/
def Effect (i : Instr) (s t : State) : Prop :=
  Reach s t ∨ (∃ c, t = s.raise c) ∨ (i = .hlt ∧ t = { s with runState := .halted })

theorem Divides.effect {i : Instr} {s t : State} (h : Divides s t) : Effect i s t :=
  h.elim (fun h => .inr (.inl ⟨_, h⟩)) .inl

/-- Every instruction answers a next state. -/
theorem exec_effect (i : Instr) (s : State) : ∃ t, exec i s = .next t ∧ Effect i s t := by
  cases i
  · exact ⟨_, rfl, .inl (.alu8 _ _ _ .start)⟩
  · exact ⟨_, rfl, .inl (.alu16 _ _ _ .start)⟩
  · exact ⟨_, rfl, .inl (.alu8 _ _ _ .start)⟩
  · exact ⟨_, rfl, .inl (.alu16 _ _ _ .start)⟩
  · exact ⟨_, rfl, .inl (.alu8 _ _ _ .start)⟩
  · exact ⟨_, rfl, .inl (.alu16 _ _ _ .start)⟩
  · exact ⟨_, rfl, .inl (.alu8 _ _ _ .start)⟩
  · exact ⟨_, rfl, .inl (.alu16 _ _ _ .start)⟩
  · exact ⟨_, rfl, .inl (.alu8 _ _ _ .start)⟩
  · exact ⟨_, rfl, .inl (.alu16 _ _ _ .start)⟩
  · exact ⟨_, rfl, .inl (.alu8 _ _ _ .start)⟩
  · exact ⟨_, rfl, .inl (.alu16 _ _ _ .start)⟩
  · exact ⟨_, rfl, .inl (.alu8 _ _ _ .start)⟩
  · exact ⟨_, rfl, .inl (.alu16 _ _ _ .start)⟩
  · exact ⟨_, rfl, .inl (.alu8 _ _ _ .start)⟩
  · exact ⟨_, rfl, .inl (.alu16 _ _ _ .start)⟩
  · exact ⟨_, rfl, .inl (.alu8 _ _ _ .start)⟩
  · exact ⟨_, rfl, .inl (.alu16 _ _ _ .start)⟩
  · exact ⟨_, rfl, .inl (.alu8 _ _ _ .start)⟩
  · exact ⟨_, rfl, .inl (.alu16 _ _ _ .start)⟩
  · exact ⟨_, rfl, .inl (.alu8 _ _ _ .start)⟩
  · exact ⟨_, rfl, .inl (.alu16 _ _ _ .start)⟩
  · exact ⟨_, rfl, .inl (.alu8 _ _ _ .start)⟩
  · exact ⟨_, rfl, .inl (.alu16 _ _ _ .start)⟩
  · exact ⟨_, rfl, .inl (.alu8 _ _ _ .start)⟩
  · exact ⟨_, rfl, .inl (.alu16 _ _ _ .start)⟩
  · exact ⟨_, rfl, .inl (.alu8 _ _ _ .start)⟩
  · exact ⟨_, rfl, .inl (.alu16 _ _ _ .start)⟩
  · exact ⟨_, rfl, .inl (.alu8 _ _ _ .start)⟩
  · exact ⟨_, rfl, .inl (.alu16 _ _ _ .start)⟩
  · exact ⟨_, rfl, .inl (.alu8 _ _ _ .start)⟩
  · exact ⟨_, rfl, .inl (.alu16 _ _ _ .start)⟩
  · exact ⟨_, rfl, .inl (.alu8 _ _ _ .start)⟩
  · exact ⟨_, rfl, .inl (.alu16 _ _ _ .start)⟩
  · exact ⟨_, rfl, .inl (.alu8 _ _ _ .start)⟩
  · exact ⟨_, rfl, .inl (.alu16 _ _ _ .start)⟩
  · exact ⟨_, rfl, .inl (.alu8 _ _ _ .start)⟩
  · exact ⟨_, rfl, .inl (.alu16 _ _ _ .start)⟩
  · exact ⟨_, rfl, .inl (.alu8 _ _ _ .start)⟩
  · exact ⟨_, rfl, .inl (.alu16 _ _ _ .start)⟩
  · exact ⟨_, rfl, .inl (.alu8 _ _ _ .start)⟩
  · exact ⟨_, rfl, .inl (.alu16 _ _ _ .start)⟩
  · exact ⟨_, rfl, .inl (.alu8 _ _ _ .start)⟩
  · exact ⟨_, rfl, .inl (.alu16 _ _ _ .start)⟩
  · exact ⟨_, rfl, .inl (.alu8 _ _ _ .start)⟩
  · exact ⟨_, rfl, .inl (.alu16 _ _ _ .start)⟩
  · exact ⟨_, rfl, .inl (.alu8 _ _ _ .start)⟩
  · exact ⟨_, rfl, .inl (.alu16 _ _ _ .start)⟩
  · exact ⟨_, rfl, .inl (.alu8 _ _ _ .start)⟩
  · exact ⟨_, rfl, .inl (.alu16 _ _ _ .start)⟩
  · exact ⟨_, rfl, .inl (.alu8 _ _ _ .start)⟩
  · exact ⟨_, rfl, .inl (.alu16 _ _ _ .start)⟩
  · exact ⟨_, rfl, .inl (.alu8 _ _ _ .start)⟩
  · exact ⟨_, rfl, .inl (.alu16 _ _ _ .start)⟩
  · exact ⟨_, rfl, .inl (.alu8 _ _ _ .start)⟩
  · exact ⟨_, rfl, .inl (.alu16 _ _ _ .start)⟩
  · exact ⟨_, rfl, .inl (.alu8 _ _ _ .start)⟩
  · exact ⟨_, rfl, .inl (.alu16 _ _ _ .start)⟩
  · exact ⟨_, rfl, .inl (.alu8 _ _ _ .start)⟩
  · exact ⟨_, rfl, .inl (.alu16 _ _ _ .start)⟩
  · exact ⟨_, rfl, .inl (.alu8 _ _ _ .start)⟩
  · exact ⟨_, rfl, .inl (.alu16 _ _ _ .start)⟩
  · exact ⟨_, rfl, .inl (.alu8 _ _ _ .start)⟩
  · exact ⟨_, rfl, .inl (.alu16 _ _ _ .start)⟩
  · exact ⟨_, rfl, .inl (.alu8 _ _ _ .start)⟩
  · exact ⟨_, rfl, .inl (.alu16 _ _ _ .start)⟩
  · exact ⟨_, rfl, .inl (.alu8 _ _ _ .start)⟩
  · exact ⟨_, rfl, .inl (.alu16 _ _ _ .start)⟩
  · exact ⟨_, rfl, .inl (.alu8 _ _ _ .start)⟩
  · exact ⟨_, rfl, .inl (.alu16 _ _ _ .start)⟩
  · exact ⟨_, rfl, .inl (.alu8 _ _ _ .start)⟩
  · exact ⟨_, rfl, .inl (.alu16 _ _ _ .start)⟩
  · exact ⟨_, rfl, .inl (.alu8 _ _ _ .start)⟩
  · exact ⟨_, rfl, .inl (.alu16 _ _ _ .start)⟩
  · exact ⟨_, rfl, .inl (.alu8 _ _ _ .start)⟩
  · exact ⟨_, rfl, .inl (.alu16 _ _ _ .start)⟩
  · exact ⟨_, rfl, .inl (.alu8 _ _ _ .start)⟩
  · exact ⟨_, rfl, .inl (.alu16 _ _ _ .start)⟩
  · exact ⟨_, rfl, .inl (.alu8 _ _ _ .start)⟩
  · exact ⟨_, rfl, .inl (.alu16 _ _ _ .start)⟩
  · exact ⟨_, rfl, .inl (.inc16 _ .start)⟩
  · exact ⟨_, rfl, .inl (.inc8 _ .start)⟩
  · exact ⟨_, rfl, .inl (.inc16 _ .start)⟩
  · exact ⟨_, rfl, .inl (.dec16 _ .start)⟩
  · exact ⟨_, rfl, .inl (.dec8 _ .start)⟩
  · exact ⟨_, rfl, .inl (.dec16 _ .start)⟩
  · exact ⟨_, rfl, .inl (.neg8 _ .start)⟩
  · exact ⟨_, rfl, .inl (.neg16 _ .start)⟩
  · exact ⟨_, rfl, .inl (.mul8 _ .start)⟩
  · exact ⟨_, rfl, .inl (.mul16 _ .start)⟩
  · exact ⟨_, rfl, .inl (.imul8 _ .start)⟩
  · exact ⟨_, rfl, .inl (.imul16 _ .start)⟩
  · exact ⟨_, rfl, (div8_divides _ _).effect⟩
  · exact ⟨_, rfl, (div16_divides _ _).effect⟩
  · exact ⟨_, rfl, (idiv8_divides _ _).effect⟩
  · exact ⟨_, rfl, (idiv16_divides _ _).effect⟩
  · exact ⟨_, rfl, .inl (.writeRm8 _ _ .start)⟩
  · exact ⟨_, rfl, .inl (.writeRm16 _ _ .start)⟩
  · exact ⟨_, rfl, .inl (.test8 _ _ .start)⟩
  · exact ⟨_, rfl, .inl (.test16 _ _ .start)⟩
  · exact ⟨_, rfl, .inl (.test8 _ _ .start)⟩
  · exact ⟨_, rfl, .inl (.test16 _ _ .start)⟩
  · exact ⟨_, rfl, .inl (.test8 _ _ .start)⟩
  · exact ⟨_, rfl, .inl (.test16 _ _ .start)⟩
  · exact ⟨_, rfl, .inl (.shift8 _ _ _ .start)⟩
  · exact ⟨_, rfl, .inl (.shift16 _ _ _ .start)⟩
  · exact ⟨_, rfl, .inl (.shift8 _ _ _ .start)⟩
  · exact ⟨_, rfl, .inl (.shift16 _ _ _ .start)⟩
  · exact ⟨_, rfl, .inl (.shift8 _ _ _ .start)⟩
  · exact ⟨_, rfl, .inl (.shift16 _ _ _ .start)⟩
  · exact ⟨_, rfl, .inl (.shift8 _ _ _ .start)⟩
  · exact ⟨_, rfl, .inl (.shift16 _ _ _ .start)⟩
  · exact ⟨_, rfl, .inl (.shift8 _ _ _ .start)⟩
  · exact ⟨_, rfl, .inl (.shift16 _ _ _ .start)⟩
  · exact ⟨_, rfl, .inl (.shift8 _ _ _ .start)⟩
  · exact ⟨_, rfl, .inl (.shift16 _ _ _ .start)⟩
  · exact ⟨_, rfl, .inl (.shift8 _ _ _ .start)⟩
  · exact ⟨_, rfl, .inl (.shift16 _ _ _ .start)⟩
  · exact ⟨_, rfl, .inl (.shift8 _ _ _ .start)⟩
  · exact ⟨_, rfl, .inl (.shift16 _ _ _ .start)⟩
  · exact ⟨_, rfl, .inl (.shift8 _ _ _ .start)⟩
  · exact ⟨_, rfl, .inl (.shift16 _ _ _ .start)⟩
  · exact ⟨_, rfl, .inl (.shift8 _ _ _ .start)⟩
  · exact ⟨_, rfl, .inl (.shift16 _ _ _ .start)⟩
  · exact ⟨_, rfl, .inl (.shift8 _ _ _ .start)⟩
  · exact ⟨_, rfl, .inl (.shift16 _ _ _ .start)⟩
  · exact ⟨_, rfl, .inl (.shift8 _ _ _ .start)⟩
  · exact ⟨_, rfl, .inl (.shift16 _ _ _ .start)⟩
  · exact ⟨_, rfl, .inl (.shift8 _ _ _ .start)⟩
  · exact ⟨_, rfl, .inl (.shift16 _ _ _ .start)⟩
  · exact ⟨_, rfl, .inl (.shift8 _ _ _ .start)⟩
  · exact ⟨_, rfl, .inl (.shift16 _ _ _ .start)⟩
  · exact ⟨_, rfl, .inl (.writeRm8 _ _ .start)⟩
  · exact ⟨_, rfl, .inl (.writeRm16 _ _ .start)⟩
  · exact ⟨_, rfl, .inl (.setR8 _ _ .start)⟩
  · exact ⟨_, rfl, .inl (.setR16 _ _ .start)⟩
  · exact ⟨_, rfl, .inl (.writeRm16 _ _ .start)⟩
  · exact ⟨_, rfl, .inl (.setSr _ _ .start)⟩
  · exact ⟨_, rfl, .inl (.setR8 _ _ .start)⟩
  · exact ⟨_, rfl, .inl (.setR16 _ _ .start)⟩
  · exact ⟨_, rfl, .inl (.store8 _ _ _ .start)⟩
  · exact ⟨_, rfl, .inl (.store16 _ _ _ .start)⟩
  · exact ⟨_, rfl, .inl (.setR8 _ _ .start)⟩
  · exact ⟨_, rfl, .inl (.setR16 _ _ .start)⟩
  · exact ⟨_, rfl, .inl (.writeRm8 _ _ .start)⟩
  · exact ⟨_, rfl, .inl (.writeRm16 _ _ .start)⟩
  · exact ⟨_, rfl, .inl (.setR8 _ _ (.writeRm8 _ _ .start))⟩
  · exact ⟨_, rfl, .inl (.setR16 _ _ (.writeRm16 _ _ .start))⟩
  · exact ⟨_, rfl, .inl (.setR16 _ _ (.setR16 _ _ .start))⟩
  · exact ⟨_, rfl, .inl (.setR16 _ _ .start)⟩
  · exact ⟨_, rfl, .inl (.setSr _ _ (.setR16 _ _ .start))⟩
  · exact ⟨_, rfl, .inl (.setSr _ _ (.setR16 _ _ .start))⟩
  · exact ⟨_, rfl, .inl (.push16 _ .start)⟩
  · exact ⟨_, rfl, .inl (.push16 _ .start)⟩
  · exact ⟨_, rfl, .inl (.push16 _ .start)⟩
  · exact ⟨_, rfl, .inl (.push16 _ .start)⟩
  · exact ⟨_, rfl, .inl (.push16 _ .start)⟩
  · exact ⟨_, rfl, .inl (.push16 _ .start)⟩
  · exact ⟨_, rfl, .inl (.setR16 _ _ (.popped .start))⟩
  · exact ⟨_, rfl, .inl (.writeRm16 _ _ (.popped .start))⟩
  · exact ⟨_, rfl, .inl (.setSr _ _ (.popped .start))⟩
  · exact ⟨_, rfl, .inl (.setSr _ _ (.popped .start))⟩
  · exact ⟨_, rfl, .inl (.setSr _ _ (.popped .start))⟩
  · exact ⟨_, rfl, .inl (.jcc _ _ .start)⟩
  · exact ⟨_, rfl, .inl (.jcc _ _ .start)⟩
  · exact ⟨_, rfl, .inl (.jcc _ _ .start)⟩
  · exact ⟨_, rfl, .inl (.jcc _ _ .start)⟩
  · exact ⟨_, rfl, .inl (.jcc _ _ .start)⟩
  · exact ⟨_, rfl, .inl (.jcc _ _ .start)⟩
  · exact ⟨_, rfl, .inl (.jcc _ _ .start)⟩
  · exact ⟨_, rfl, .inl (.jcc _ _ .start)⟩
  · exact ⟨_, rfl, .inl (.jcc _ _ .start)⟩
  · exact ⟨_, rfl, .inl (.jcc _ _ .start)⟩
  · exact ⟨_, rfl, .inl (.jcc _ _ .start)⟩
  · exact ⟨_, rfl, .inl (.jcc _ _ .start)⟩
  · exact ⟨_, rfl, .inl (.jcc _ _ .start)⟩
  · exact ⟨_, rfl, .inl (.jcc _ _ .start)⟩
  · exact ⟨_, rfl, .inl (.jcc _ _ .start)⟩
  · exact ⟨_, rfl, .inl (.jcc _ _ .start)⟩
  · exact ⟨_, rfl, .inl (.jumpRelative _ _ .start)⟩
  · exact ⟨_, rfl, .inl (.jumpRelative _ _ .start)⟩
  · exact ⟨_, rfl, .inl (.jumpFar _ _ .start)⟩
  · exact ⟨_, rfl, .inl (.setIp _ .start)⟩
  · exact ⟨_, rfl, .inl (.jumpFar _ _ .start)⟩
  · exact ⟨_, rfl, .inl (.setIp _ (.push16 _ .start))⟩
  · exact ⟨_, rfl, .inl (.callFarTo _ _ .start)⟩
  · exact ⟨_, rfl, .inl (.setIp _ (.push16 _ .start))⟩
  · exact ⟨_, rfl, .inl (.callFarTo _ _ .start)⟩
  · exact ⟨_, rfl, .inl (.retNear .start)⟩
  · exact ⟨_, rfl, .inl (.addSp _ (.retNear .start))⟩
  · exact ⟨_, rfl, .inl (.retFar .start)⟩
  · exact ⟨_, rfl, .inl (.addSp _ (.retFar .start))⟩
  · exact ⟨_, rfl, .inl (.loopIf _ _ .start)⟩
  · exact ⟨_, rfl, .inl (.loopIf _ _ .start)⟩
  · exact ⟨_, rfl, .inl (.loopIf _ _ .start)⟩
  · exact ⟨_, rfl, .inl (.jumpRelative _ _ .start)⟩
  · exact ⟨_, rfl, .inl (.setFlags _ .start)⟩
  · exact ⟨_, rfl, .inl (.setFlags _ .start)⟩
  · exact ⟨_, rfl, .inl (.setFlags _ .start)⟩
  · exact ⟨_, rfl, .inl (.setFlags _ .start)⟩
  · exact ⟨_, rfl, .inl (.setFlags _ .start)⟩
  · exact ⟨_, rfl, .inl (.setFlags _ .start)⟩
  · exact ⟨_, rfl, .inl (.setFlags _ .start)⟩
  · exact ⟨_, rfl, .inl (.stringOp (fun _ => .movsElement8) _ .start)⟩
  · exact ⟨_, rfl, .inl (.stringOp (fun _ => .movsElement16) _ .start)⟩
  · exact ⟨_, rfl, .inl (.stringOp (fun _ => .cmpsElement8) _ .start)⟩
  · exact ⟨_, rfl, .inl (.stringOp (fun _ => .cmpsElement16) _ .start)⟩
  · exact ⟨_, rfl, .inl (.stringOp (fun _ => .stosElement8) _ .start)⟩
  · exact ⟨_, rfl, .inl (.stringOp (fun _ => .stosElement16) _ .start)⟩
  · exact ⟨_, rfl, .inl (.stringOp (fun _ => .lodsElement8) _ .start)⟩
  · exact ⟨_, rfl, .inl (.stringOp (fun _ => .lodsElement16) _ .start)⟩
  · exact ⟨_, rfl, .inl (.stringOp (fun _ => .scasElement8) _ .start)⟩
  · exact ⟨_, rfl, .inl (.stringOp (fun _ => .scasElement16) _ .start)⟩
  · exact ⟨_, rfl, .inl (.setR8 _ _ (.portRead8 _ .start))⟩
  · exact ⟨_, rfl, .inl (.setR16 _ _ (.portRead16 _ .start))⟩
  · exact ⟨_, rfl, .inl (.setR8 _ _ (.portRead8 _ .start))⟩
  · exact ⟨_, rfl, .inl (.setR16 _ _ (.portRead16 _ .start))⟩
  · exact ⟨_, rfl, .inl (.portWrite8 _ _ .start)⟩
  · exact ⟨_, rfl, .inl (.portWrite16 _ _ .start)⟩
  · exact ⟨_, rfl, .inl (.portWrite8 _ _ .start)⟩
  · exact ⟨_, rfl, .inl (.portWrite16 _ _ .start)⟩
  · exact ⟨_, rfl, .inl (.override _ .start)⟩
  · exact ⟨_, rfl, .inl (.override _ .start)⟩
  · exact ⟨_, rfl, .inl (.override _ .start)⟩
  · exact ⟨_, rfl, .inl (.override _ .start)⟩
  · exact ⟨_, rfl, .inl (.rep _ .start)⟩
  · exact ⟨_, rfl, .inl (.rep _ .start)⟩
  · exact ⟨_, rfl, .inr (.inr ⟨rfl, rfl⟩)⟩
  · exact ⟨_, rfl, .inr (.inl ⟨_, rfl⟩)⟩
  · exact ⟨_, rfl, .inr (.inl ⟨_, rfl⟩)⟩

end Sys2Proof.Machine
end

