-- ==== Sys2Proof/Laws/Ops.lean ====
section
/-! SUPPORT. One lemma per shared operation: what a register, a segment register or a byte of memory holds after it. -/

namespace Sys2Proof.Machine

/-! ### The register file -/

@[simp] theorem Regs.get16_set16 (g : Regs) (q r : Reg16) (v : Word) :
    (g.set16 r v).get16 q = if q = r then v else g.get16 q := by
  cases r <;> cases q <;> rfl

@[simp] theorem Regs.get16_set8 (g : Regs) (q : Reg16) (r : Reg8) (v : Byte) :
    (g.set8 r v).get16 q =
      if q = Reg8.home r then (if Reg8.isHigh r then wordOf (lowByte (g.get16 q)) v else wordOf v (highByte (g.get16 q)))
      else g.get16 q := by
  cases r <;> cases q <;> rfl

@[simp] theorem Regs.get8_set16 (g : Regs) (q : Reg8) (r : Reg16) (v : Word) :
    (g.set16 r v).get8 q = if Reg8.home q = r then (if Reg8.isHigh q then highByte v else lowByte v) else g.get8 q := by
  cases r <;> cases q <;> rfl

@[simp] theorem Regs.get8_set8 (g : Regs) (q r : Reg8) (v : Byte) :
    (g.set8 r v).get8 q = if q = r then v else g.get8 q := by
  cases r <;> cases q <;> simp [Regs.set8, Regs.get8, Regs.set16, Regs.get16, Reg8.home, Reg8.isHigh]

/-- Equal registers, equal files. -/
theorem Regs.eq_of_get16 {g g' : Regs} (h : ∀ q, g.get16 q = g'.get16 q) : g = g' := by
  obtain ⟨a, c, d, b, sp, bp, si, di⟩ := g
  obtain ⟨a', c', d', b', sp', bp', si', di'⟩ := g'
  have ha := h .ax
  have hc := h .cx
  have hd := h .dx
  have hb := h .bx
  have hsp := h .sp
  have hbp := h .bp
  have hsi := h .si
  have hdi := h .di
  simp only [Regs.get16] at ha hc hd hb hsp hbp hsi hdi
  simp [*]

@[simp] theorem SegRegs.get_set (g : SegRegs) (q r : Sreg) (v : Word) :
    (g.set r v).get q = if q = r then v else g.get q := by
  cases r <;> cases q <;> rfl

/-- A word register is its two bytes. -/
theorem State.r16_bytes (s : State) :
    s.r16 .ax = wordOf (s.r8 .al) (s.r8 .ah) ∧ s.r16 .cx = wordOf (s.r8 .cl) (s.r8 .ch) ∧
    s.r16 .dx = wordOf (s.r8 .dl) (s.r8 .dh) ∧ s.r16 .bx = wordOf (s.r8 .bl) (s.r8 .bh) := by
  simp [State.r16, State.r8, Regs.get8, Reg8.home, Reg8.isHigh]

/-! ### Registers of the state -/

@[simp] theorem State.r16_setR16 (s : State) (q r : Reg16) (v : Word) :
    (s.setR16 r v).r16 q = if q = r then v else s.r16 q := Regs.get16_set16 _ _ _ _

@[simp] theorem State.r8_setR8 (s : State) (q r : Reg8) (v : Byte) :
    (s.setR8 r v).r8 q = if q = r then v else s.r8 q := Regs.get8_set8 _ _ _ _

@[simp] theorem State.r8_setR16 (s : State) (q : Reg8) (r : Reg16) (v : Word) :
    (s.setR16 r v).r8 q = if Reg8.home q = r then (if Reg8.isHigh q then highByte v else lowByte v) else s.r8 q :=
  Regs.get8_set16 _ _ _ _

@[simp] theorem State.r16_setR8 (s : State) (q : Reg16) (r : Reg8) (v : Byte) :
    (s.setR8 r v).r16 q =
      if q = Reg8.home r then (if Reg8.isHigh r then wordOf (lowByte (s.r16 q)) v else wordOf v (highByte (s.r16 q)))
      else s.r16 q :=
  Regs.get16_set8 _ _ _ _

@[simp] theorem State.sr_setSr (s : State) (q r : Sreg) (v : Word) :
    (s.setSr r v).sr q = if q = r then v else s.sr q := SegRegs.get_set _ _ _ _

/-- Registers depend on the register file only. -/
theorem State.r16_congr {s t : State} (h : t.regs = s.regs) (q : Reg16) : t.r16 q = s.r16 q := by
  simp [State.r16, h]

theorem State.r8_congr {s t : State} (h : t.regs = s.regs) (q : Reg8) : t.r8 q = s.r8 q := by
  simp [State.r8, h]

theorem State.sr_congr {s t : State} (h : t.sregs = s.sregs) (q : Sreg) : t.sr q = s.sr q := by
  simp [State.sr, h]

theorem State.byteAt_congr {s t : State} (h : t.mem = s.mem) (x : Addr) : t.byteAt x = s.byteAt x := by
  simp [State.byteAt, h]

theorem State.busRead8_congr {s t : State} (h : t.mem = s.mem) (ha : t.areas = s.areas) (x : Addr) :
    t.busRead8 x = s.busRead8 x := by
  simp [State.busRead8, State.byteAt, h, ha]

theorem State.memRead16_congr {s t : State} (h : t.mem = s.mem) (ha : t.areas = s.areas) (x : Addr) :
    t.memRead16 x = s.memRead16 x := by
  simp [State.memRead16, State.busRead8_congr h ha]

/-! ### Addresses -/

/-- `Phys` as arithmetic. -/
theorem phys_toNat (seg off : Word) : (phys seg off).toNat = (seg.toNat * 16 + off.toNat) % 2 ^ 20 := by
  simp only [phys, BitVec.toNat_add, BitVec.toNat_shiftLeft, BitVec.toNat_setWidth, Nat.shiftLeft_eq]
  have := seg.isLt
  have := off.isLt
  omega

/-! ### Operands -/

theorem State.byteAt_writeRm8 {s : State} (h : Memory.wf s.mem = true) (rm : Rm Reg8) (v : Byte) (x : Addr) :
    (s.writeRm8 rm v).byteAt x =
      match rm with
      | .reg _ => s.byteAt x
      | .mem m => if x = s.memAddr m ∧ isWritable s.areas x = true then v else s.byteAt x := by
  cases rm with
  | reg r => rfl
  | mem m => exact State.byteAt_store8 h _ _ _ _

theorem State.byteAt_writeRm16 {s : State} (h : Memory.wf s.mem = true) (rm : Rm Reg16) (v : Word) (x : Addr) :
    (s.writeRm16 rm v).byteAt x =
      match rm with
      | .reg _ => s.byteAt x
      | .mem m =>
        if x = s.memAddr m ∧ isWritable s.areas x = true then lowByte v
        else if x = s.memAddr m + 1 ∧ isWritable s.areas x = true then highByte v else s.byteAt x := by
  cases rm with
  | reg r => rfl
  | mem m => exact State.byteAt_store16 h _ _ _ _

@[simp] theorem State.regs_writeRm8_mem (s : State) (m : MemOp) (v : Byte) : (s.writeRm8 (.mem m) v).regs = s.regs := rfl
@[simp] theorem State.regs_writeRm16_mem (s : State) (m : MemOp) (v : Word) : (s.writeRm16 (.mem m) v).regs = s.regs := rfl
@[simp] theorem State.writeRm8_reg (s : State) (r : Reg8) (v : Byte) : s.writeRm8 (.reg r) v = s.setR8 r v := rfl
@[simp] theorem State.writeRm16_reg (s : State) (r : Reg16) (v : Word) : s.writeRm16 (.reg r) v = s.setR16 r v := rfl
@[simp] theorem State.readRm8_reg (s : State) (r : Reg8) : s.readRm8 (.reg r) = s.r8 r := rfl
@[simp] theorem State.readRm16_reg (s : State) (r : Reg16) : s.readRm16 (.reg r) = s.r16 r := rfl

/-- The segment and offset of an operand depend on the registers, the segment registers and the override latch only. -/
theorem State.memSeg_congr {s t : State} (hs : t.sregs = s.sregs) (ho : t.segOverride = s.segOverride) (m : MemOp) :
    t.memSeg m = s.memSeg m := by
  simp only [State.memSeg, State.dataSeg, State.sr, hs, ho]

theorem State.ea_congr {s t : State} (hr : t.regs = s.regs) (m : MemOp) : t.ea m = s.ea m := by
  cases m <;> simp only [State.ea, hr]

theorem State.memAddr_congr {s t : State} (hr : t.regs = s.regs) (hs : t.sregs = s.sregs)
    (ho : t.segOverride = s.segOverride) (m : MemOp) : t.memAddr m = s.memAddr m := by
  simp only [State.memAddr, State.memSeg_congr hs ho, State.ea_congr hr]

/-- An operand's value depends on the registers, the segment registers, the override latch, memory and the map only. -/
theorem State.readRm8_congr {s t : State} (hr : t.regs = s.regs) (hs : t.sregs = s.sregs)
    (ho : t.segOverride = s.segOverride) (hm : t.mem = s.mem) (ha : t.areas = s.areas) (rm : Rm Reg8) :
    t.readRm8 rm = s.readRm8 rm := by
  cases rm with
  | reg r => exact State.r8_congr hr r
  | mem m =>
    simp only [State.readRm8, State.load8, State.memSeg_congr hs ho, State.ea_congr hr, State.busRead8_congr hm ha]

theorem State.readRm16_congr {s t : State} (hr : t.regs = s.regs) (hs : t.sregs = s.sregs)
    (ho : t.segOverride = s.segOverride) (hm : t.mem = s.mem) (ha : t.areas = s.areas) (rm : Rm Reg16) :
    t.readRm16 rm = s.readRm16 rm := by
  cases rm with
  | reg r => exact State.r16_congr hr r
  | mem m =>
    simp only [State.readRm16, State.load16, State.memSeg_congr hs ho, State.ea_congr hr, State.memRead16_congr hm ha]

/-! ### The stack -/

/-- After a push the word stands at SS:SP of the new SP, low byte first; every other byte is as before. -/
theorem State.byteAt_push16 {s : State} (h : Memory.wf s.mem = true) (v : Word) (x : Addr) :
    (s.push16 v).byteAt x =
      if x = phys s.sregs.ss (s.regs.sp - 2) ∧ isWritable s.areas x = true then lowByte v
      else if x = phys s.sregs.ss (s.regs.sp - 2) + 1 ∧ isWritable s.areas x = true then highByte v else s.byteAt x :=
  State.byteAt_store16 (s := s.setR16 .sp (s.regs.sp - 2)) h _ _ _ _

/-! ### Flags -/

@[simp] theorem setSZP_CF {w : Nat} (r : BitVec w) (f : Flags) : (setSZP r f).CF = f.CF := by simp only [setSZP]
@[simp] theorem setSZP_AF {w : Nat} (r : BitVec w) (f : Flags) : (setSZP r f).AF = f.AF := by simp only [setSZP]
@[simp] theorem setSZP_OF {w : Nat} (r : BitVec w) (f : Flags) : (setSZP r f).OF = f.OF := by simp only [setSZP]
@[simp] theorem setSZP_TF {w : Nat} (r : BitVec w) (f : Flags) : (setSZP r f).TF = f.TF := by simp only [setSZP]
@[simp] theorem setSZP_IF {w : Nat} (r : BitVec w) (f : Flags) : (setSZP r f).IF = f.IF := by simp only [setSZP]
@[simp] theorem setSZP_DF {w : Nat} (r : BitVec w) (f : Flags) : (setSZP r f).DF = f.DF := by simp only [setSZP]
@[simp] theorem setSZP_SF {w : Nat} (r : BitVec w) (f : Flags) : (setSZP r f).SF = r.msb := by simp only [setSZP]
@[simp] theorem setSZP_ZF {w : Nat} (r : BitVec w) (f : Flags) : (setSZP r f).ZF = decide (r = 0) := by simp only [setSZP]
@[simp] theorem setSZP_PF {w : Nat} (r : BitVec w) (f : Flags) : (setSZP r f).PF = parity8 (r.setWidth 8) := by simp only [setSZP]

/-- No flag computation touches TF, IF or DF. -/
theorem Alu.compute_control {w : Nat} (k : Alu) (a b : BitVec w) (af : Bool) (f : Flags) :
    (k.compute a b af f).2.TF = f.TF ∧ (k.compute a b af f).2.IF = f.IF ∧ (k.compute a b af f).2.DF = f.DF := by
  cases k <;> exact ⟨rfl, rfl, rfl⟩

theorem Shift.flags_control {w : Nat} (k : Shift) (n : Nat) (x x' : BitVec w) (c' : Bool) (u : Nat → Bool) (f : Flags) :
    (k.flags n x x' c' u f).TF = f.TF ∧ (k.flags n x x' c' u f).IF = f.IF ∧ (k.flags n x x' c' u f).DF = f.DF := by
  unfold Shift.flags
  split
  · exact ⟨rfl, rfl, rfl⟩
  · cases k <;> simp [Shift.isShift]

end Sys2Proof.Machine
end

