-- ==== Sys2Proof/Laws/Flags.lean ====
section
/-! SUPPORT. The flag computations said as arithmetic on numbers (spec/10_state.md R40 to R45), one lemma per flag, so
that no proof about an instruction unfolds them; and the shift loop one step at a time from either end. -/

namespace Sys2Proof.Machine

/-- PF counts the 1 bits of the byte (R40). -/
theorem parity8_count : ∀ v : Byte, parity8 v = decide (((List.range 8).countP fun i => v.toNat.testBit i) % 2 = 0) := by
  decide +kernel

/-- Only the low eight bits are counted. -/
theorem countP_low8 (n : Nat) :
    ((List.range 8).countP fun i => (n % 256).testBit i) = (List.range 8).countP fun i => n.testBit i := by
  apply List.countP_congr
  intro i hi
  simp at hi
  rw [show 256 = 2 ^ 8 from rfl, Nat.testBit_mod_two_pow]
  simp [hi]

/-- The sign bit as a masked number. -/
theorem msb_eq_and {w : Nat} (x : BitVec w) : x.msb = decide (x.toNat &&& 2 ^ (w - 1) ≠ 0) := by
  rw [BitVec.msb_eq_getLsbD_last, ← BitVec.testBit_toNat, Nat.and_two_pow]
  cases h : x.toNat.testBit (w - 1) <;> simp

/-- Bit 4 as arithmetic. -/
theorem bit4_eq {w : Nat} (x : BitVec w) : x.getLsbD 4 = decide (x.toNat / 2 ^ 4 % 2 = 1) := by
  rw [← BitVec.testBit_toNat, Nat.testBit_eq_decide_div_mod_eq]

/-- SF, ZF and PF of a result (R41). -/
theorem setSZP_arith {w : Nat} (r : BitVec w) (f : Flags) :
    (setSZP r f).SF = decide (2 ^ (w - 1) ≤ r.toNat) ∧ (setSZP r f).ZF = decide (r.toNat = 0) ∧
    (setSZP r f).PF = decide (((List.range 8).countP fun i => r.toNat.testBit i) % 2 = 0) := by
  refine ⟨by simp [BitVec.msb_eq_decide], ?_, ?_⟩
  · simp only [setSZP_ZF]; congr 1; rw [← BitVec.toNat_inj]; simp
  · rw [setSZP_PF, parity8_count, BitVec.toNat_setWidth, show 2 ^ 8 = 256 from rfl, countP_low8]

/-- CF, OF and AF of an addition (R42). -/
theorem addFlags_arith {w : Nat} (a b : BitVec w) (c : Bool) (f : Flags) :
    (addFlags a b c f).2.CF = decide (2 ^ w ≤ a.toNat + b.toNat + c.toNat) ∧
    (addFlags a b c f).2.OF =
      decide ((a.toNat ^^^ (addFlags a b c f).1.toNat) &&& (b.toNat ^^^ (addFlags a b c f).1.toNat) &&& 2 ^ (w - 1) ≠ 0) ∧
    (addFlags a b c f).2.AF = decide ((a.toNat ^^^ b.toNat ^^^ (addFlags a b c f).1.toNat) / 2 ^ 4 % 2 = 1) := by
  refine ⟨by simp [addFlags], ?_, ?_⟩
  · simp only [addFlags, setSZP_OF]; rw [msb_eq_and]; simp
  · simp only [addFlags, setSZP_AF]; rw [bit4_eq]; simp

/-- The result of an addition (R42). -/
theorem addFlags_result {w : Nat} (a b : BitVec w) (c : Bool) (f : Flags) :
    (addFlags a b c f).1.toNat = (a.toNat + b.toNat + c.toNat) % 2 ^ w := by simp [addFlags]

/-- CF, OF and AF of a subtraction (R43). -/
theorem subFlags_arith {w : Nat} (a b : BitVec w) (c : Bool) (f : Flags) :
    (subFlags a b c f).2.CF = decide ((a.toNat - b.toNat - c.toNat : Int) < 0) ∧
    (subFlags a b c f).2.OF =
      decide ((a.toNat ^^^ b.toNat) &&& (a.toNat ^^^ (subFlags a b c f).1.toNat) &&& 2 ^ (w - 1) ≠ 0) ∧
    (subFlags a b c f).2.AF = decide ((a.toNat ^^^ b.toNat ^^^ (subFlags a b c f).1.toNat) / 2 ^ 4 % 2 = 1) := by
  refine ⟨by simp [subFlags], ?_, ?_⟩
  · simp only [subFlags, setSZP_OF]; rw [msb_eq_and]; simp
  · simp only [subFlags, setSZP_AF]; rw [bit4_eq]; simp

/-- The result of a subtraction (R43). -/
theorem subFlags_result {w : Nat} (a b : BitVec w) (c : Bool) (f : Flags) :
    ((subFlags a b c f).1.toNat : Int) = (a.toNat - b.toNat - c.toNat : Int) % 2 ^ w := by
  simp only [subFlags, BitVec.toNat_ofInt]
  rw [Int.toNat_of_nonneg]
  · rfl
  · apply Int.emod_nonneg; positivity

/-- The last step of the loop of R271 may be taken off as well as the first. -/
theorem Shift.iterate_succ {w : Nat} (k : Shift) (n : Nat) (xc : BitVec w × Bool) :
    k.iterate (n + 1) xc = k.step (k.iterate n xc) := by
  induction n generalizing xc with
  | zero => rfl
  | succ n ih => exact ih (k.step xc)

/-- The loop in two parts. -/
theorem Shift.iterate_add {w : Nat} (k : Shift) (m n : Nat) (xc : BitVec w × Bool) :
    k.iterate (m + n) xc = k.iterate n (k.iterate m xc) := by
  induction m generalizing xc with
  | zero => simp [Shift.iterate]
  | succ m ih => rw [Nat.succ_add]; exact ih (k.step xc)

end Sys2Proof.Machine
end

