-- ==== Sys2Proof/Laws/OpcodeMap.lean ====
section
/-! SUPPORT. The opcode map, one equation per first byte: what the decoder reads after it. -/

namespace Sys2Proof

@[simp] theorem decode_cons (op : Byte) (bs : List Byte) : decode (op :: bs) = (opcodeForm op).run bs := rfl

@[simp] theorem Form.run_plain (t : Tail) (bs : List Byte) : (Form.plain t).run bs = t.run bs := rfl
@[simp] theorem Form.run_far (k : Word → Word → Instr) (o0 o1 s0 s1 : Byte) (bs : List Byte) :
    (Form.far k).run (o0 :: o1 :: s0 :: s1 :: bs) = .ok (k (wordOf o0 o1) (wordOf s0 s1), bs) := rfl
@[simp] theorem Tail.run_done (i : Instr) (bs : List Byte) : (Tail.done i).run bs = .ok (i, bs) := rfl
@[simp] theorem Tail.run_ib (k : Byte → Instr) (b : Byte) (bs : List Byte) : (Tail.ib k).run (b :: bs) = .ok (k b, bs) := rfl
@[simp] theorem Tail.run_iw (k : Word → Instr) (lo hi : Byte) (bs : List Byte) :
    (Tail.iw k).run (lo :: hi :: bs) = .ok (k (wordOf lo hi), bs) := rfl

@[simp] theorem Form.run_modrm {k : BitVec 3 → Rm (BitVec 3) → Tail} {bs rest : List Byte} {g : BitVec 3}
    {rm : Rm (BitVec 3)} (h : decodeRm bs = .ok (g, rm, rest)) : (Form.modrm k).run bs = (k g rm).run rest := by
  simp [Form.run, h]

/-- The 50 unpopulated first bytes. -/
def unpopulatedBytes : List Byte :=
  [0x0F, 0x27, 0x2F, 0x37, 0x3F, 0x60, 0x61, 0x62, 0x63, 0x64] ++
   [0x65, 0x66, 0x67, 0x68, 0x69, 0x6A, 0x6B, 0x6C, 0x6D, 0x6E] ++
   [0x6F, 0x98, 0x99, 0x9B, 0x9C, 0x9D, 0x9E, 0x9F, 0xC0, 0xC1] ++
   [0xC8, 0xC9, 0xCC, 0xCD, 0xCE, 0xCF, 0xD4, 0xD5, 0xD6, 0xD7] ++
   [0xD8, 0xD9, 0xDA, 0xDB, 0xDC, 0xDD, 0xDE, 0xDF, 0xF0, 0xF1]

theorem mem_unpopulatedBytes : ∀ op : Byte, isUnpopulated op = true → op ∈ unpopulatedBytes := by decide +kernel

theorem opcodeForm_unpopulated {op : Byte} (h : isUnpopulated op = true) : opcodeForm op = .plain (.done (.invalidOp op)) := by
  have hm := mem_unpopulatedBytes op h
  simp only [unpopulatedBytes, List.mem_append, List.mem_cons, List.not_mem_nil, or_false] at hm
  rcases hm with
    (((((rfl | rfl | rfl | rfl | rfl | rfl | rfl | rfl | rfl | rfl) | (rfl | rfl | rfl | rfl | rfl | rfl | rfl | rfl | rfl | rfl)) | (rfl | rfl | rfl | rfl | rfl | rfl | rfl | rfl | rfl | rfl)) | (rfl | rfl | rfl | rfl | rfl | rfl | rfl | rfl | rfl | rfl)) | (rfl | rfl | rfl | rfl | rfl | rfl | rfl | rfl | rfl | rfl)) <;> rfl

@[simp] theorem opcodeForm_00 : opcodeForm 0x00#8 = .modrm fun g rm => .done (.addRm8R8 rm.byte (Reg8.ofNum g)) := rfl
@[simp] theorem opcodeForm_01 : opcodeForm 0x01#8 = .modrm fun g rm => .done (.addRm16R16 rm.word (Reg16.ofNum g)) := rfl
@[simp] theorem opcodeForm_02 : opcodeForm 0x02#8 = .modrm fun g rm => .done (.addR8Rm8 (Reg8.ofNum g) rm.byte) := rfl
@[simp] theorem opcodeForm_03 : opcodeForm 0x03#8 = .modrm fun g rm => .done (.addR16Rm16 (Reg16.ofNum g) rm.word) := rfl
@[simp] theorem opcodeForm_04 : opcodeForm 0x04#8 = .plain (.ib .addAlIb) := rfl
@[simp] theorem opcodeForm_05 : opcodeForm 0x05#8 = .plain (.iw .addAxIw) := rfl
@[simp] theorem opcodeForm_06 : opcodeForm 0x06#8 = .plain (.done .pushEs) := rfl
@[simp] theorem opcodeForm_07 : opcodeForm 0x07#8 = .plain (.done .popEs) := rfl
@[simp] theorem opcodeForm_08 : opcodeForm 0x08#8 = .modrm fun g rm => .done (.orRm8R8 rm.byte (Reg8.ofNum g)) := rfl
@[simp] theorem opcodeForm_09 : opcodeForm 0x09#8 = .modrm fun g rm => .done (.orRm16R16 rm.word (Reg16.ofNum g)) := rfl
@[simp] theorem opcodeForm_0A : opcodeForm 0x0A#8 = .modrm fun g rm => .done (.orR8Rm8 (Reg8.ofNum g) rm.byte) := rfl
@[simp] theorem opcodeForm_0B : opcodeForm 0x0B#8 = .modrm fun g rm => .done (.orR16Rm16 (Reg16.ofNum g) rm.word) := rfl
@[simp] theorem opcodeForm_0C : opcodeForm 0x0C#8 = .plain (.ib .orAlIb) := rfl
@[simp] theorem opcodeForm_0D : opcodeForm 0x0D#8 = .plain (.iw .orAxIw) := rfl
@[simp] theorem opcodeForm_0E : opcodeForm 0x0E#8 = .plain (.done .pushCs) := rfl
@[simp] theorem opcodeForm_10 : opcodeForm 0x10#8 = .modrm fun g rm => .done (.adcRm8R8 rm.byte (Reg8.ofNum g)) := rfl
@[simp] theorem opcodeForm_11 : opcodeForm 0x11#8 = .modrm fun g rm => .done (.adcRm16R16 rm.word (Reg16.ofNum g)) := rfl
@[simp] theorem opcodeForm_12 : opcodeForm 0x12#8 = .modrm fun g rm => .done (.adcR8Rm8 (Reg8.ofNum g) rm.byte) := rfl
@[simp] theorem opcodeForm_13 : opcodeForm 0x13#8 = .modrm fun g rm => .done (.adcR16Rm16 (Reg16.ofNum g) rm.word) := rfl
@[simp] theorem opcodeForm_14 : opcodeForm 0x14#8 = .plain (.ib .adcAlIb) := rfl
@[simp] theorem opcodeForm_15 : opcodeForm 0x15#8 = .plain (.iw .adcAxIw) := rfl
@[simp] theorem opcodeForm_16 : opcodeForm 0x16#8 = .plain (.done .pushSs) := rfl
@[simp] theorem opcodeForm_17 : opcodeForm 0x17#8 = .plain (.done .popSs) := rfl
@[simp] theorem opcodeForm_18 : opcodeForm 0x18#8 = .modrm fun g rm => .done (.sbbRm8R8 rm.byte (Reg8.ofNum g)) := rfl
@[simp] theorem opcodeForm_19 : opcodeForm 0x19#8 = .modrm fun g rm => .done (.sbbRm16R16 rm.word (Reg16.ofNum g)) := rfl
@[simp] theorem opcodeForm_1A : opcodeForm 0x1A#8 = .modrm fun g rm => .done (.sbbR8Rm8 (Reg8.ofNum g) rm.byte) := rfl
@[simp] theorem opcodeForm_1B : opcodeForm 0x1B#8 = .modrm fun g rm => .done (.sbbR16Rm16 (Reg16.ofNum g) rm.word) := rfl
@[simp] theorem opcodeForm_1C : opcodeForm 0x1C#8 = .plain (.ib .sbbAlIb) := rfl
@[simp] theorem opcodeForm_1D : opcodeForm 0x1D#8 = .plain (.iw .sbbAxIw) := rfl
@[simp] theorem opcodeForm_1E : opcodeForm 0x1E#8 = .plain (.done .pushDs) := rfl
@[simp] theorem opcodeForm_1F : opcodeForm 0x1F#8 = .plain (.done .popDs) := rfl
@[simp] theorem opcodeForm_20 : opcodeForm 0x20#8 = .modrm fun g rm => .done (.andRm8R8 rm.byte (Reg8.ofNum g)) := rfl
@[simp] theorem opcodeForm_21 : opcodeForm 0x21#8 = .modrm fun g rm => .done (.andRm16R16 rm.word (Reg16.ofNum g)) := rfl
@[simp] theorem opcodeForm_22 : opcodeForm 0x22#8 = .modrm fun g rm => .done (.andR8Rm8 (Reg8.ofNum g) rm.byte) := rfl
@[simp] theorem opcodeForm_23 : opcodeForm 0x23#8 = .modrm fun g rm => .done (.andR16Rm16 (Reg16.ofNum g) rm.word) := rfl
@[simp] theorem opcodeForm_24 : opcodeForm 0x24#8 = .plain (.ib .andAlIb) := rfl
@[simp] theorem opcodeForm_25 : opcodeForm 0x25#8 = .plain (.iw .andAxIw) := rfl
@[simp] theorem opcodeForm_26 : opcodeForm 0x26#8 = .plain (.done .prefixEs) := rfl
@[simp] theorem opcodeForm_28 : opcodeForm 0x28#8 = .modrm fun g rm => .done (.subRm8R8 rm.byte (Reg8.ofNum g)) := rfl
@[simp] theorem opcodeForm_29 : opcodeForm 0x29#8 = .modrm fun g rm => .done (.subRm16R16 rm.word (Reg16.ofNum g)) := rfl
@[simp] theorem opcodeForm_2A : opcodeForm 0x2A#8 = .modrm fun g rm => .done (.subR8Rm8 (Reg8.ofNum g) rm.byte) := rfl
@[simp] theorem opcodeForm_2B : opcodeForm 0x2B#8 = .modrm fun g rm => .done (.subR16Rm16 (Reg16.ofNum g) rm.word) := rfl
@[simp] theorem opcodeForm_2C : opcodeForm 0x2C#8 = .plain (.ib .subAlIb) := rfl
@[simp] theorem opcodeForm_2D : opcodeForm 0x2D#8 = .plain (.iw .subAxIw) := rfl
@[simp] theorem opcodeForm_2E : opcodeForm 0x2E#8 = .plain (.done .prefixCs) := rfl
@[simp] theorem opcodeForm_30 : opcodeForm 0x30#8 = .modrm fun g rm => .done (.xorRm8R8 rm.byte (Reg8.ofNum g)) := rfl
@[simp] theorem opcodeForm_31 : opcodeForm 0x31#8 = .modrm fun g rm => .done (.xorRm16R16 rm.word (Reg16.ofNum g)) := rfl
@[simp] theorem opcodeForm_32 : opcodeForm 0x32#8 = .modrm fun g rm => .done (.xorR8Rm8 (Reg8.ofNum g) rm.byte) := rfl
@[simp] theorem opcodeForm_33 : opcodeForm 0x33#8 = .modrm fun g rm => .done (.xorR16Rm16 (Reg16.ofNum g) rm.word) := rfl
@[simp] theorem opcodeForm_34 : opcodeForm 0x34#8 = .plain (.ib .xorAlIb) := rfl
@[simp] theorem opcodeForm_35 : opcodeForm 0x35#8 = .plain (.iw .xorAxIw) := rfl
@[simp] theorem opcodeForm_36 : opcodeForm 0x36#8 = .plain (.done .prefixSs) := rfl
@[simp] theorem opcodeForm_38 : opcodeForm 0x38#8 = .modrm fun g rm => .done (.cmpRm8R8 rm.byte (Reg8.ofNum g)) := rfl
@[simp] theorem opcodeForm_39 : opcodeForm 0x39#8 = .modrm fun g rm => .done (.cmpRm16R16 rm.word (Reg16.ofNum g)) := rfl
@[simp] theorem opcodeForm_3A : opcodeForm 0x3A#8 = .modrm fun g rm => .done (.cmpR8Rm8 (Reg8.ofNum g) rm.byte) := rfl
@[simp] theorem opcodeForm_3B : opcodeForm 0x3B#8 = .modrm fun g rm => .done (.cmpR16Rm16 (Reg16.ofNum g) rm.word) := rfl
@[simp] theorem opcodeForm_3C : opcodeForm 0x3C#8 = .plain (.ib .cmpAlIb) := rfl
@[simp] theorem opcodeForm_3D : opcodeForm 0x3D#8 = .plain (.iw .cmpAxIw) := rfl
@[simp] theorem opcodeForm_3E : opcodeForm 0x3E#8 = .plain (.done .prefixDs) := rfl
@[simp] theorem opcodeForm_plus_40 (r : Reg16) : opcodeForm (opcodePlus 0x40#8 r.num) = .plain (.done (.incR16 r)) := by
  cases r <;> rfl
@[simp] theorem opcodeForm_plus_48 (r : Reg16) : opcodeForm (opcodePlus 0x48#8 r.num) = .plain (.done (.decR16 r)) := by
  cases r <;> rfl
@[simp] theorem opcodeForm_plus_50 (r : Reg16) : opcodeForm (opcodePlus 0x50#8 r.num) = .plain (.done (.pushR16 r)) := by
  cases r <;> rfl
@[simp] theorem opcodeForm_plus_58 (r : Reg16) : opcodeForm (opcodePlus 0x58#8 r.num) = .plain (.done (.popR16 r)) := by
  cases r <;> rfl
@[simp] theorem opcodeForm_70 : opcodeForm 0x70#8 = .plain (.ib .jo) := rfl
@[simp] theorem opcodeForm_71 : opcodeForm 0x71#8 = .plain (.ib .jno) := rfl
@[simp] theorem opcodeForm_72 : opcodeForm 0x72#8 = .plain (.ib .jb) := rfl
@[simp] theorem opcodeForm_73 : opcodeForm 0x73#8 = .plain (.ib .jnb) := rfl
@[simp] theorem opcodeForm_74 : opcodeForm 0x74#8 = .plain (.ib .je) := rfl
@[simp] theorem opcodeForm_75 : opcodeForm 0x75#8 = .plain (.ib .jne) := rfl
@[simp] theorem opcodeForm_76 : opcodeForm 0x76#8 = .plain (.ib .jbe) := rfl
@[simp] theorem opcodeForm_77 : opcodeForm 0x77#8 = .plain (.ib .jnbe) := rfl
@[simp] theorem opcodeForm_78 : opcodeForm 0x78#8 = .plain (.ib .js) := rfl
@[simp] theorem opcodeForm_79 : opcodeForm 0x79#8 = .plain (.ib .jns) := rfl
@[simp] theorem opcodeForm_7A : opcodeForm 0x7A#8 = .plain (.ib .jp) := rfl
@[simp] theorem opcodeForm_7B : opcodeForm 0x7B#8 = .plain (.ib .jnp) := rfl
@[simp] theorem opcodeForm_7C : opcodeForm 0x7C#8 = .plain (.ib .jl) := rfl
@[simp] theorem opcodeForm_7D : opcodeForm 0x7D#8 = .plain (.ib .jnl) := rfl
@[simp] theorem opcodeForm_7E : opcodeForm 0x7E#8 = .plain (.ib .jle) := rfl
@[simp] theorem opcodeForm_7F : opcodeForm 0x7F#8 = .plain (.ib .jnle) := rfl
@[simp] theorem opcodeForm_80 : opcodeForm 0x80#8 = .modrm fun g rm => .ib (group1_80 g rm.byte) := rfl
@[simp] theorem opcodeForm_81 : opcodeForm 0x81#8 = .modrm fun g rm => .iw (group1_81 g rm.word) := rfl
@[simp] theorem opcodeForm_82 : opcodeForm 0x82#8 = .modrm fun g rm => .ib (group1_82 g rm.byte) := rfl
@[simp] theorem opcodeForm_83 : opcodeForm 0x83#8 = .modrm fun g rm => .ib (group1_83 g rm.word) := rfl
@[simp] theorem opcodeForm_84 : opcodeForm 0x84#8 = .modrm fun g rm => .done (.testRm8R8 rm.byte (Reg8.ofNum g)) := rfl
@[simp] theorem opcodeForm_85 : opcodeForm 0x85#8 = .modrm fun g rm => .done (.testRm16R16 rm.word (Reg16.ofNum g)) := rfl
@[simp] theorem opcodeForm_86 : opcodeForm 0x86#8 = .modrm fun g rm => .done (.xchgRm8R8 rm.byte (Reg8.ofNum g)) := rfl
@[simp] theorem opcodeForm_87 : opcodeForm 0x87#8 = .modrm fun g rm => .done (.xchgRm16R16 rm.word (Reg16.ofNum g)) := rfl
@[simp] theorem opcodeForm_88 : opcodeForm 0x88#8 = .modrm fun g rm => .done (.movRm8R8 rm.byte (Reg8.ofNum g)) := rfl
@[simp] theorem opcodeForm_89 : opcodeForm 0x89#8 = .modrm fun g rm => .done (.movRm16R16 rm.word (Reg16.ofNum g)) := rfl
@[simp] theorem opcodeForm_8A : opcodeForm 0x8A#8 = .modrm fun g rm => .done (.movR8Rm8 (Reg8.ofNum g) rm.byte) := rfl
@[simp] theorem opcodeForm_8B : opcodeForm 0x8B#8 = .modrm fun g rm => .done (.movR16Rm16 (Reg16.ofNum g) rm.word) := rfl
@[simp] theorem opcodeForm_8C : opcodeForm 0x8C#8 = .modrm fun g rm => .done (segmentForm 0x8C (fun sr rm => .movRm16Sreg rm sr) g rm) := rfl
@[simp] theorem opcodeForm_8D : opcodeForm 0x8D#8 = .modrm fun g rm => .done (memOnly 0x8D (.leaR16M (Reg16.ofNum g)) g rm) := rfl
@[simp] theorem opcodeForm_8E : opcodeForm 0x8E#8 = .modrm fun g rm => .done (segmentForm 0x8E .movSregRm16 g rm) := rfl
@[simp] theorem opcodeForm_8F : opcodeForm 0x8F#8 = .modrm fun g rm => slashZero 0x8F (.done (.popRm16 rm.word)) g rm := rfl
@[simp] theorem opcodeForm_plus_90 (r : Reg16) : opcodeForm (opcodePlus 0x90#8 r.num) = .plain (.done (.xchgAxR16 r)) := by
  cases r <;> rfl
@[simp] theorem opcodeForm_9A : opcodeForm 0x9A#8 = .far .callFar := rfl
@[simp] theorem opcodeForm_A0 : opcodeForm 0xA0#8 = .plain (.iw .movAlMoffs) := rfl
@[simp] theorem opcodeForm_A1 : opcodeForm 0xA1#8 = .plain (.iw .movAxMoffs) := rfl
@[simp] theorem opcodeForm_A2 : opcodeForm 0xA2#8 = .plain (.iw .movMoffsAl) := rfl
@[simp] theorem opcodeForm_A3 : opcodeForm 0xA3#8 = .plain (.iw .movMoffsAx) := rfl
@[simp] theorem opcodeForm_A4 : opcodeForm 0xA4#8 = .plain (.done .movsb) := rfl
@[simp] theorem opcodeForm_A5 : opcodeForm 0xA5#8 = .plain (.done .movsw) := rfl
@[simp] theorem opcodeForm_A6 : opcodeForm 0xA6#8 = .plain (.done .cmpsb) := rfl
@[simp] theorem opcodeForm_A7 : opcodeForm 0xA7#8 = .plain (.done .cmpsw) := rfl
@[simp] theorem opcodeForm_A8 : opcodeForm 0xA8#8 = .plain (.ib .testAlIb) := rfl
@[simp] theorem opcodeForm_A9 : opcodeForm 0xA9#8 = .plain (.iw .testAxIw) := rfl
@[simp] theorem opcodeForm_AA : opcodeForm 0xAA#8 = .plain (.done .stosb) := rfl
@[simp] theorem opcodeForm_AB : opcodeForm 0xAB#8 = .plain (.done .stosw) := rfl
@[simp] theorem opcodeForm_AC : opcodeForm 0xAC#8 = .plain (.done .lodsb) := rfl
@[simp] theorem opcodeForm_AD : opcodeForm 0xAD#8 = .plain (.done .lodsw) := rfl
@[simp] theorem opcodeForm_AE : opcodeForm 0xAE#8 = .plain (.done .scasb) := rfl
@[simp] theorem opcodeForm_AF : opcodeForm 0xAF#8 = .plain (.done .scasw) := rfl
@[simp] theorem opcodeForm_plus_B0 (r : Reg8) : opcodeForm (opcodePlus 0xB0#8 r.num) = .plain (.ib (.movR8Ib r)) := by
  cases r <;> rfl
@[simp] theorem opcodeForm_plus_B8 (r : Reg16) : opcodeForm (opcodePlus 0xB8#8 r.num) = .plain (.iw (.movR16Iw r)) := by
  cases r <;> rfl
@[simp] theorem opcodeForm_C2 : opcodeForm 0xC2#8 = .plain (.iw .retIw) := rfl
@[simp] theorem opcodeForm_C3 : opcodeForm 0xC3#8 = .plain (.done .ret) := rfl
@[simp] theorem opcodeForm_C4 : opcodeForm 0xC4#8 = .modrm fun g rm => .done (memOnly 0xC4 (.lesR16M (Reg16.ofNum g)) g rm) := rfl
@[simp] theorem opcodeForm_C5 : opcodeForm 0xC5#8 = .modrm fun g rm => .done (memOnly 0xC5 (.ldsR16M (Reg16.ofNum g)) g rm) := rfl
@[simp] theorem opcodeForm_C6 : opcodeForm 0xC6#8 = .modrm fun g rm => slashZero 0xC6 (.ib (.movRm8Ib rm.byte)) g rm := rfl
@[simp] theorem opcodeForm_C7 : opcodeForm 0xC7#8 = .modrm fun g rm => slashZero 0xC7 (.iw (.movRm16Iw rm.word)) g rm := rfl
@[simp] theorem opcodeForm_CA : opcodeForm 0xCA#8 = .plain (.iw .retfIw) := rfl
@[simp] theorem opcodeForm_CB : opcodeForm 0xCB#8 = .plain (.done .retf) := rfl
@[simp] theorem opcodeForm_D0 : opcodeForm 0xD0#8 = .modrm fun g rm => .done (group2_D0 g rm) := rfl
@[simp] theorem opcodeForm_D1 : opcodeForm 0xD1#8 = .modrm fun g rm => .done (group2_D1 g rm) := rfl
@[simp] theorem opcodeForm_D2 : opcodeForm 0xD2#8 = .modrm fun g rm => .done (group2_D2 g rm) := rfl
@[simp] theorem opcodeForm_D3 : opcodeForm 0xD3#8 = .modrm fun g rm => .done (group2_D3 g rm) := rfl
@[simp] theorem opcodeForm_E0 : opcodeForm 0xE0#8 = .plain (.ib .loopne) := rfl
@[simp] theorem opcodeForm_E1 : opcodeForm 0xE1#8 = .plain (.ib .loope) := rfl
@[simp] theorem opcodeForm_E2 : opcodeForm 0xE2#8 = .plain (.ib .loop) := rfl
@[simp] theorem opcodeForm_E3 : opcodeForm 0xE3#8 = .plain (.ib .jcxz) := rfl
@[simp] theorem opcodeForm_E4 : opcodeForm 0xE4#8 = .plain (.ib .inAlIb) := rfl
@[simp] theorem opcodeForm_E5 : opcodeForm 0xE5#8 = .plain (.ib .inAxIb) := rfl
@[simp] theorem opcodeForm_E6 : opcodeForm 0xE6#8 = .plain (.ib .outIbAl) := rfl
@[simp] theorem opcodeForm_E7 : opcodeForm 0xE7#8 = .plain (.ib .outIbAx) := rfl
@[simp] theorem opcodeForm_E8 : opcodeForm 0xE8#8 = .plain (.iw .callNear) := rfl
@[simp] theorem opcodeForm_E9 : opcodeForm 0xE9#8 = .plain (.iw .jmpNear) := rfl
@[simp] theorem opcodeForm_EA : opcodeForm 0xEA#8 = .far .jmpFar := rfl
@[simp] theorem opcodeForm_EB : opcodeForm 0xEB#8 = .plain (.ib .jmpShort) := rfl
@[simp] theorem opcodeForm_EC : opcodeForm 0xEC#8 = .plain (.done .inAlDx) := rfl
@[simp] theorem opcodeForm_ED : opcodeForm 0xED#8 = .plain (.done .inAxDx) := rfl
@[simp] theorem opcodeForm_EE : opcodeForm 0xEE#8 = .plain (.done .outDxAl) := rfl
@[simp] theorem opcodeForm_EF : opcodeForm 0xEF#8 = .plain (.done .outDxAx) := rfl
@[simp] theorem opcodeForm_F2 : opcodeForm 0xF2#8 = .plain (.done .prefixRepne) := rfl
@[simp] theorem opcodeForm_F3 : opcodeForm 0xF3#8 = .plain (.done .prefixRep) := rfl
@[simp] theorem opcodeForm_F4 : opcodeForm 0xF4#8 = .plain (.done .hlt) := rfl
@[simp] theorem opcodeForm_F5 : opcodeForm 0xF5#8 = .plain (.done .cmc) := rfl
@[simp] theorem opcodeForm_F6 : opcodeForm 0xF6#8 = .modrm group3_F6 := rfl
@[simp] theorem opcodeForm_F7 : opcodeForm 0xF7#8 = .modrm group3_F7 := rfl
@[simp] theorem opcodeForm_F8 : opcodeForm 0xF8#8 = .plain (.done .clc) := rfl
@[simp] theorem opcodeForm_F9 : opcodeForm 0xF9#8 = .plain (.done .stc) := rfl
@[simp] theorem opcodeForm_FA : opcodeForm 0xFA#8 = .plain (.done .cli) := rfl
@[simp] theorem opcodeForm_FB : opcodeForm 0xFB#8 = .plain (.done .sti) := rfl
@[simp] theorem opcodeForm_FC : opcodeForm 0xFC#8 = .plain (.done .cld) := rfl
@[simp] theorem opcodeForm_FD : opcodeForm 0xFD#8 = .plain (.done .std) := rfl
@[simp] theorem opcodeForm_FE : opcodeForm 0xFE#8 = .modrm fun g rm => .done (group4_FE g rm) := rfl
@[simp] theorem opcodeForm_FF : opcodeForm 0xFF#8 = .modrm fun g rm => .done (group5_FF g rm) := rfl

/-- An invalid sub-encoding ends with its ModR/M byte and displacement (R126). -/
theorem Form.run_invalidSub {op : Byte} {g : BitVec 3} {rm : Rm (BitVec 3)}
    (h : isInvalidSub op g rm.isReg = true) (hw : rm.wf = true) (rest : List Byte) :
    (opcodeForm op).run (encodeRm g rm ++ rest) = .ok (.invalidMrm op g rm, rest) := by
  have key : ∀ (op : Byte) (g : BitVec 3), isInvalidSub op g false = true →
     (op ∈ [0x8C, 0x8E] ∧ g ∈ [4,5,6,7]) ∨ (op ∈ [0x8F,0xC6,0xC7] ∧ g ∈ [1,2,3,4,5,6,7]) ∨ (op ∈ [0xD0,0xD1,0xD2,0xD3] ∧ g = 6) ∨
     (op ∈ [0xF6,0xF7] ∧ g = 1) ∨ (op = 0xFE ∧ g ∈ [2,3,4,5,6,7]) ∨ (op = 0xFF ∧ g = 7) := by decide +kernel
  have key' : ∀ (op : Byte) (g : BitVec 3), isInvalidSub op g true = true →
     isInvalidSub op g false = true ∨ op ∈ [0x8D,0xC4,0xC5] ∨ (op = 0xFF ∧ (g = 3 ∨ g = 5)) := by decide +kernel
  have h' : isInvalidSub op g false = true ∨ (rm.isReg = true ∧ (op ∈ [0x8D,0xC4,0xC5] ∨ (op = 0xFF ∧ (g = 3 ∨ g = 5)))) := by
    cases hb : rm.isReg with
    | false => rw [hb] at h; exact .inl h
    | true => 
      rw [hb] at h
      rcases key' op g h with h | h
      · exact .inl h
      · exact .inr ⟨rfl, h⟩
  rcases h' with h | ⟨hr, h3⟩
  · have := key op g h
    simp only [List.mem_cons, List.not_mem_nil, or_false] at this
    rcases this with ⟨h1, h2⟩ | ⟨h1, h2⟩ | ⟨h1, h2⟩ | ⟨h1, h2⟩ | ⟨h1, h2⟩ | ⟨h1, h2⟩
    · rcases h1 with rfl | rfl <;> rcases h2 with rfl | rfl | rfl | rfl <;> simp [Form.run, hw, segmentForm, Sreg.ofNum?]
    · rcases h1 with rfl | rfl | rfl <;> rcases h2 with rfl | rfl | rfl | rfl | rfl | rfl | rfl <;> simp [Form.run, hw, slashZero]
    · rcases h1 with rfl | rfl | rfl | rfl <;> subst h2 <;> simp [Form.run, hw, group2_D0, group2_D1, group2_D2, group2_D3]
    · rcases h1 with rfl | rfl <;> subst h2 <;> simp [Form.run, hw, group3_F6, group3_F7]
    · subst h1; rcases h2 with rfl | rfl | rfl | rfl | rfl | rfl <;> simp [Form.run, hw, group4_FE]
    · subst h1; subst h2; simp [Form.run, hw, group5_FF]
  · cases rm with
    | mem m => simp [Rm.isReg] at hr
    | reg r =>
      simp only [List.mem_cons, List.not_mem_nil, or_false] at h3
      rcases h3 with (rfl | rfl | rfl) | ⟨rfl, rfl | rfl⟩ <;> simp [Form.run, hw, memOnly, group5_FF]

/-- What a ModR/M format read: an operand, then its tail. -/
theorem Form.run_modrm_split {k} {bs rest : List Byte} {i : Instr} (h : (Form.modrm k).run bs = .ok (i, rest)) :
    ∃ g rm bs', rm.wf = true ∧ bs = encodeRm g rm ++ bs' ∧ (k g rm).run bs' = .ok (i, rest) := by
  simp only [Form.run] at h
  split at h
  · rename_i g rm bs' hd
    have := encodeRm_of_decodeRm hd
    exact ⟨g, rm, bs', this.1, this.2.symm, h⟩
  · cases h

end Sys2Proof
end

