-- ==== Sys2Proof/Laws/PerInstr.lean ====
section
/-! SUPPORT. Facts about every instruction as syntax, one lemma per constructor. -/

/-- The encoding of the instruction has one byte at least and six at most (spec/30_encoding.md R118). -/
def Sys2Proof.Laws.EncodedLength.Statement (i : Sys2Proof.Instr) : Prop :=
  i.wf = true → 1 ≤ (Sys2Proof.encode i).length ∧ (Sys2Proof.encode i).length ≤ 6

namespace Sys2Proof.Laws.EncodedLength

open Sys2Proof

/-- One to six bytes. -/
abbrev Fits (bs : List Byte) : Prop := 1 ≤ bs.length ∧ bs.length ≤ 6

theorem fits_modrm (op : Byte) (g : BitVec 3) (rm : Rm (BitVec 3)) : Fits (op :: encodeRm g rm) := by
  have := encodeRm_length g rm
  simp [Fits]; omega

theorem fits_modrm_byte (op : Byte) (g : BitVec 3) (rm : Rm (BitVec 3)) (ib : Byte) :
    Fits (op :: (encodeRm g rm ++ [ib])) := by
  have := encodeRm_length g rm
  simp [Fits]; omega

theorem fits_modrm_word (op : Byte) (g : BitVec 3) (rm : Rm (BitVec 3)) (iw : Word) :
    Fits (op :: (encodeRm g rm ++ encodeWord iw)) := by
  have := encodeRm_length g rm
  simp [Fits]; omega

theorem fits_one (op : Byte) : Fits [op] := by simp [Fits]

theorem fits_two (op ib : Byte) : Fits [op, ib] := by simp [Fits]

theorem fits_word (op : Byte) (iw : Word) : Fits (op :: encodeWord iw) := by simp [Fits]

theorem fits_two_words (op : Byte) (u v : Word) : Fits (op :: (encodeWord u ++ encodeWord v)) := by simp [Fits]

theorem addRm8R8 (rm : Rm Reg8) (r : Reg8) : Statement (.addRm8R8 rm r) :=
  fun _ => fits_modrm 0x00 r.num (Rm.map Reg8.num rm)
theorem addRm16R16 (rm : Rm Reg16) (r : Reg16) : Statement (.addRm16R16 rm r) :=
  fun _ => fits_modrm 0x01 r.num (Rm.map Reg16.num rm)
theorem addR8Rm8 (r : Reg8) (rm : Rm Reg8) : Statement (.addR8Rm8 r rm) :=
  fun _ => fits_modrm 0x02 r.num (Rm.map Reg8.num rm)
theorem addR16Rm16 (r : Reg16) (rm : Rm Reg16) : Statement (.addR16Rm16 r rm) :=
  fun _ => fits_modrm 0x03 r.num (Rm.map Reg16.num rm)
theorem addAlIb (ib : Byte) : Statement (.addAlIb ib) :=
  fun _ => fits_two _ _
theorem addAxIw (iw : Word) : Statement (.addAxIw iw) :=
  fun _ => fits_word _ _
theorem addRm8Ib (rm : Rm Reg8) (ib : Byte) : Statement (.addRm8Ib rm ib) :=
  fun _ => fits_modrm_byte 0x80 0 (Rm.map Reg8.num rm) _
theorem addRm16Iw (rm : Rm Reg16) (iw : Word) : Statement (.addRm16Iw rm iw) :=
  fun _ => fits_modrm_word 0x81 0 (Rm.map Reg16.num rm) _
theorem addRm8IbAlt (rm : Rm Reg8) (ib : Byte) : Statement (.addRm8IbAlt rm ib) :=
  fun _ => fits_modrm_byte 0x82 0 (Rm.map Reg8.num rm) _
theorem addRm16Ib (rm : Rm Reg16) (ib : Byte) : Statement (.addRm16Ib rm ib) :=
  fun _ => fits_modrm_byte 0x83 0 (Rm.map Reg16.num rm) _
theorem orRm8R8 (rm : Rm Reg8) (r : Reg8) : Statement (.orRm8R8 rm r) :=
  fun _ => fits_modrm 0x08 r.num (Rm.map Reg8.num rm)
theorem orRm16R16 (rm : Rm Reg16) (r : Reg16) : Statement (.orRm16R16 rm r) :=
  fun _ => fits_modrm 0x09 r.num (Rm.map Reg16.num rm)
theorem orR8Rm8 (r : Reg8) (rm : Rm Reg8) : Statement (.orR8Rm8 r rm) :=
  fun _ => fits_modrm 0x0A r.num (Rm.map Reg8.num rm)
theorem orR16Rm16 (r : Reg16) (rm : Rm Reg16) : Statement (.orR16Rm16 r rm) :=
  fun _ => fits_modrm 0x0B r.num (Rm.map Reg16.num rm)
theorem orAlIb (ib : Byte) : Statement (.orAlIb ib) :=
  fun _ => fits_two _ _
theorem orAxIw (iw : Word) : Statement (.orAxIw iw) :=
  fun _ => fits_word _ _
theorem orRm8Ib (rm : Rm Reg8) (ib : Byte) : Statement (.orRm8Ib rm ib) :=
  fun _ => fits_modrm_byte 0x80 1 (Rm.map Reg8.num rm) _
theorem orRm16Iw (rm : Rm Reg16) (iw : Word) : Statement (.orRm16Iw rm iw) :=
  fun _ => fits_modrm_word 0x81 1 (Rm.map Reg16.num rm) _
theorem orRm8IbAlt (rm : Rm Reg8) (ib : Byte) : Statement (.orRm8IbAlt rm ib) :=
  fun _ => fits_modrm_byte 0x82 1 (Rm.map Reg8.num rm) _
theorem orRm16Ib (rm : Rm Reg16) (ib : Byte) : Statement (.orRm16Ib rm ib) :=
  fun _ => fits_modrm_byte 0x83 1 (Rm.map Reg16.num rm) _
theorem adcRm8R8 (rm : Rm Reg8) (r : Reg8) : Statement (.adcRm8R8 rm r) :=
  fun _ => fits_modrm 0x10 r.num (Rm.map Reg8.num rm)
theorem adcRm16R16 (rm : Rm Reg16) (r : Reg16) : Statement (.adcRm16R16 rm r) :=
  fun _ => fits_modrm 0x11 r.num (Rm.map Reg16.num rm)
theorem adcR8Rm8 (r : Reg8) (rm : Rm Reg8) : Statement (.adcR8Rm8 r rm) :=
  fun _ => fits_modrm 0x12 r.num (Rm.map Reg8.num rm)
theorem adcR16Rm16 (r : Reg16) (rm : Rm Reg16) : Statement (.adcR16Rm16 r rm) :=
  fun _ => fits_modrm 0x13 r.num (Rm.map Reg16.num rm)
theorem adcAlIb (ib : Byte) : Statement (.adcAlIb ib) :=
  fun _ => fits_two _ _
theorem adcAxIw (iw : Word) : Statement (.adcAxIw iw) :=
  fun _ => fits_word _ _
theorem adcRm8Ib (rm : Rm Reg8) (ib : Byte) : Statement (.adcRm8Ib rm ib) :=
  fun _ => fits_modrm_byte 0x80 2 (Rm.map Reg8.num rm) _
theorem adcRm16Iw (rm : Rm Reg16) (iw : Word) : Statement (.adcRm16Iw rm iw) :=
  fun _ => fits_modrm_word 0x81 2 (Rm.map Reg16.num rm) _
theorem adcRm8IbAlt (rm : Rm Reg8) (ib : Byte) : Statement (.adcRm8IbAlt rm ib) :=
  fun _ => fits_modrm_byte 0x82 2 (Rm.map Reg8.num rm) _
theorem adcRm16Ib (rm : Rm Reg16) (ib : Byte) : Statement (.adcRm16Ib rm ib) :=
  fun _ => fits_modrm_byte 0x83 2 (Rm.map Reg16.num rm) _
theorem sbbRm8R8 (rm : Rm Reg8) (r : Reg8) : Statement (.sbbRm8R8 rm r) :=
  fun _ => fits_modrm 0x18 r.num (Rm.map Reg8.num rm)
theorem sbbRm16R16 (rm : Rm Reg16) (r : Reg16) : Statement (.sbbRm16R16 rm r) :=
  fun _ => fits_modrm 0x19 r.num (Rm.map Reg16.num rm)
theorem sbbR8Rm8 (r : Reg8) (rm : Rm Reg8) : Statement (.sbbR8Rm8 r rm) :=
  fun _ => fits_modrm 0x1A r.num (Rm.map Reg8.num rm)
theorem sbbR16Rm16 (r : Reg16) (rm : Rm Reg16) : Statement (.sbbR16Rm16 r rm) :=
  fun _ => fits_modrm 0x1B r.num (Rm.map Reg16.num rm)
theorem sbbAlIb (ib : Byte) : Statement (.sbbAlIb ib) :=
  fun _ => fits_two _ _
theorem sbbAxIw (iw : Word) : Statement (.sbbAxIw iw) :=
  fun _ => fits_word _ _
theorem sbbRm8Ib (rm : Rm Reg8) (ib : Byte) : Statement (.sbbRm8Ib rm ib) :=
  fun _ => fits_modrm_byte 0x80 3 (Rm.map Reg8.num rm) _
theorem sbbRm16Iw (rm : Rm Reg16) (iw : Word) : Statement (.sbbRm16Iw rm iw) :=
  fun _ => fits_modrm_word 0x81 3 (Rm.map Reg16.num rm) _
theorem sbbRm8IbAlt (rm : Rm Reg8) (ib : Byte) : Statement (.sbbRm8IbAlt rm ib) :=
  fun _ => fits_modrm_byte 0x82 3 (Rm.map Reg8.num rm) _
theorem sbbRm16Ib (rm : Rm Reg16) (ib : Byte) : Statement (.sbbRm16Ib rm ib) :=
  fun _ => fits_modrm_byte 0x83 3 (Rm.map Reg16.num rm) _
theorem andRm8R8 (rm : Rm Reg8) (r : Reg8) : Statement (.andRm8R8 rm r) :=
  fun _ => fits_modrm 0x20 r.num (Rm.map Reg8.num rm)
theorem andRm16R16 (rm : Rm Reg16) (r : Reg16) : Statement (.andRm16R16 rm r) :=
  fun _ => fits_modrm 0x21 r.num (Rm.map Reg16.num rm)
theorem andR8Rm8 (r : Reg8) (rm : Rm Reg8) : Statement (.andR8Rm8 r rm) :=
  fun _ => fits_modrm 0x22 r.num (Rm.map Reg8.num rm)
theorem andR16Rm16 (r : Reg16) (rm : Rm Reg16) : Statement (.andR16Rm16 r rm) :=
  fun _ => fits_modrm 0x23 r.num (Rm.map Reg16.num rm)
theorem andAlIb (ib : Byte) : Statement (.andAlIb ib) :=
  fun _ => fits_two _ _
theorem andAxIw (iw : Word) : Statement (.andAxIw iw) :=
  fun _ => fits_word _ _
theorem andRm8Ib (rm : Rm Reg8) (ib : Byte) : Statement (.andRm8Ib rm ib) :=
  fun _ => fits_modrm_byte 0x80 4 (Rm.map Reg8.num rm) _
theorem andRm16Iw (rm : Rm Reg16) (iw : Word) : Statement (.andRm16Iw rm iw) :=
  fun _ => fits_modrm_word 0x81 4 (Rm.map Reg16.num rm) _
theorem andRm8IbAlt (rm : Rm Reg8) (ib : Byte) : Statement (.andRm8IbAlt rm ib) :=
  fun _ => fits_modrm_byte 0x82 4 (Rm.map Reg8.num rm) _
theorem andRm16Ib (rm : Rm Reg16) (ib : Byte) : Statement (.andRm16Ib rm ib) :=
  fun _ => fits_modrm_byte 0x83 4 (Rm.map Reg16.num rm) _
theorem subRm8R8 (rm : Rm Reg8) (r : Reg8) : Statement (.subRm8R8 rm r) :=
  fun _ => fits_modrm 0x28 r.num (Rm.map Reg8.num rm)
theorem subRm16R16 (rm : Rm Reg16) (r : Reg16) : Statement (.subRm16R16 rm r) :=
  fun _ => fits_modrm 0x29 r.num (Rm.map Reg16.num rm)
theorem subR8Rm8 (r : Reg8) (rm : Rm Reg8) : Statement (.subR8Rm8 r rm) :=
  fun _ => fits_modrm 0x2A r.num (Rm.map Reg8.num rm)
theorem subR16Rm16 (r : Reg16) (rm : Rm Reg16) : Statement (.subR16Rm16 r rm) :=
  fun _ => fits_modrm 0x2B r.num (Rm.map Reg16.num rm)
theorem subAlIb (ib : Byte) : Statement (.subAlIb ib) :=
  fun _ => fits_two _ _
theorem subAxIw (iw : Word) : Statement (.subAxIw iw) :=
  fun _ => fits_word _ _
theorem subRm8Ib (rm : Rm Reg8) (ib : Byte) : Statement (.subRm8Ib rm ib) :=
  fun _ => fits_modrm_byte 0x80 5 (Rm.map Reg8.num rm) _
theorem subRm16Iw (rm : Rm Reg16) (iw : Word) : Statement (.subRm16Iw rm iw) :=
  fun _ => fits_modrm_word 0x81 5 (Rm.map Reg16.num rm) _
theorem subRm8IbAlt (rm : Rm Reg8) (ib : Byte) : Statement (.subRm8IbAlt rm ib) :=
  fun _ => fits_modrm_byte 0x82 5 (Rm.map Reg8.num rm) _
theorem subRm16Ib (rm : Rm Reg16) (ib : Byte) : Statement (.subRm16Ib rm ib) :=
  fun _ => fits_modrm_byte 0x83 5 (Rm.map Reg16.num rm) _
theorem xorRm8R8 (rm : Rm Reg8) (r : Reg8) : Statement (.xorRm8R8 rm r) :=
  fun _ => fits_modrm 0x30 r.num (Rm.map Reg8.num rm)
theorem xorRm16R16 (rm : Rm Reg16) (r : Reg16) : Statement (.xorRm16R16 rm r) :=
  fun _ => fits_modrm 0x31 r.num (Rm.map Reg16.num rm)
theorem xorR8Rm8 (r : Reg8) (rm : Rm Reg8) : Statement (.xorR8Rm8 r rm) :=
  fun _ => fits_modrm 0x32 r.num (Rm.map Reg8.num rm)
theorem xorR16Rm16 (r : Reg16) (rm : Rm Reg16) : Statement (.xorR16Rm16 r rm) :=
  fun _ => fits_modrm 0x33 r.num (Rm.map Reg16.num rm)
theorem xorAlIb (ib : Byte) : Statement (.xorAlIb ib) :=
  fun _ => fits_two _ _
theorem xorAxIw (iw : Word) : Statement (.xorAxIw iw) :=
  fun _ => fits_word _ _
theorem xorRm8Ib (rm : Rm Reg8) (ib : Byte) : Statement (.xorRm8Ib rm ib) :=
  fun _ => fits_modrm_byte 0x80 6 (Rm.map Reg8.num rm) _
theorem xorRm16Iw (rm : Rm Reg16) (iw : Word) : Statement (.xorRm16Iw rm iw) :=
  fun _ => fits_modrm_word 0x81 6 (Rm.map Reg16.num rm) _
theorem xorRm8IbAlt (rm : Rm Reg8) (ib : Byte) : Statement (.xorRm8IbAlt rm ib) :=
  fun _ => fits_modrm_byte 0x82 6 (Rm.map Reg8.num rm) _
theorem xorRm16Ib (rm : Rm Reg16) (ib : Byte) : Statement (.xorRm16Ib rm ib) :=
  fun _ => fits_modrm_byte 0x83 6 (Rm.map Reg16.num rm) _
theorem cmpRm8R8 (rm : Rm Reg8) (r : Reg8) : Statement (.cmpRm8R8 rm r) :=
  fun _ => fits_modrm 0x38 r.num (Rm.map Reg8.num rm)
theorem cmpRm16R16 (rm : Rm Reg16) (r : Reg16) : Statement (.cmpRm16R16 rm r) :=
  fun _ => fits_modrm 0x39 r.num (Rm.map Reg16.num rm)
theorem cmpR8Rm8 (r : Reg8) (rm : Rm Reg8) : Statement (.cmpR8Rm8 r rm) :=
  fun _ => fits_modrm 0x3A r.num (Rm.map Reg8.num rm)
theorem cmpR16Rm16 (r : Reg16) (rm : Rm Reg16) : Statement (.cmpR16Rm16 r rm) :=
  fun _ => fits_modrm 0x3B r.num (Rm.map Reg16.num rm)
theorem cmpAlIb (ib : Byte) : Statement (.cmpAlIb ib) :=
  fun _ => fits_two _ _
theorem cmpAxIw (iw : Word) : Statement (.cmpAxIw iw) :=
  fun _ => fits_word _ _
theorem cmpRm8Ib (rm : Rm Reg8) (ib : Byte) : Statement (.cmpRm8Ib rm ib) :=
  fun _ => fits_modrm_byte 0x80 7 (Rm.map Reg8.num rm) _
theorem cmpRm16Iw (rm : Rm Reg16) (iw : Word) : Statement (.cmpRm16Iw rm iw) :=
  fun _ => fits_modrm_word 0x81 7 (Rm.map Reg16.num rm) _
theorem cmpRm8IbAlt (rm : Rm Reg8) (ib : Byte) : Statement (.cmpRm8IbAlt rm ib) :=
  fun _ => fits_modrm_byte 0x82 7 (Rm.map Reg8.num rm) _
theorem cmpRm16Ib (rm : Rm Reg16) (ib : Byte) : Statement (.cmpRm16Ib rm ib) :=
  fun _ => fits_modrm_byte 0x83 7 (Rm.map Reg16.num rm) _
theorem incR16 (r : Reg16) : Statement (.incR16 r) :=
  fun _ => fits_one _
theorem incRm8 (rm : Rm Reg8) : Statement (.incRm8 rm) :=
  fun _ => fits_modrm 0xFE 0 (Rm.map Reg8.num rm)
theorem incRm16 (rm : Rm Reg16) : Statement (.incRm16 rm) :=
  fun _ => fits_modrm 0xFF 0 (Rm.map Reg16.num rm)
theorem decR16 (r : Reg16) : Statement (.decR16 r) :=
  fun _ => fits_one _
theorem decRm8 (rm : Rm Reg8) : Statement (.decRm8 rm) :=
  fun _ => fits_modrm 0xFE 1 (Rm.map Reg8.num rm)
theorem decRm16 (rm : Rm Reg16) : Statement (.decRm16 rm) :=
  fun _ => fits_modrm 0xFF 1 (Rm.map Reg16.num rm)
theorem negRm8 (rm : Rm Reg8) : Statement (.negRm8 rm) :=
  fun _ => fits_modrm 0xF6 3 (Rm.map Reg8.num rm)
theorem negRm16 (rm : Rm Reg16) : Statement (.negRm16 rm) :=
  fun _ => fits_modrm 0xF7 3 (Rm.map Reg16.num rm)
theorem mulRm8 (rm : Rm Reg8) : Statement (.mulRm8 rm) :=
  fun _ => fits_modrm 0xF6 4 (Rm.map Reg8.num rm)
theorem mulRm16 (rm : Rm Reg16) : Statement (.mulRm16 rm) :=
  fun _ => fits_modrm 0xF7 4 (Rm.map Reg16.num rm)
theorem imulRm8 (rm : Rm Reg8) : Statement (.imulRm8 rm) :=
  fun _ => fits_modrm 0xF6 5 (Rm.map Reg8.num rm)
theorem imulRm16 (rm : Rm Reg16) : Statement (.imulRm16 rm) :=
  fun _ => fits_modrm 0xF7 5 (Rm.map Reg16.num rm)
theorem divRm8 (rm : Rm Reg8) : Statement (.divRm8 rm) :=
  fun _ => fits_modrm 0xF6 6 (Rm.map Reg8.num rm)
theorem divRm16 (rm : Rm Reg16) : Statement (.divRm16 rm) :=
  fun _ => fits_modrm 0xF7 6 (Rm.map Reg16.num rm)
theorem idivRm8 (rm : Rm Reg8) : Statement (.idivRm8 rm) :=
  fun _ => fits_modrm 0xF6 7 (Rm.map Reg8.num rm)
theorem idivRm16 (rm : Rm Reg16) : Statement (.idivRm16 rm) :=
  fun _ => fits_modrm 0xF7 7 (Rm.map Reg16.num rm)
theorem notRm8 (rm : Rm Reg8) : Statement (.notRm8 rm) :=
  fun _ => fits_modrm 0xF6 2 (Rm.map Reg8.num rm)
theorem notRm16 (rm : Rm Reg16) : Statement (.notRm16 rm) :=
  fun _ => fits_modrm 0xF7 2 (Rm.map Reg16.num rm)
theorem testRm8R8 (rm : Rm Reg8) (r : Reg8) : Statement (.testRm8R8 rm r) :=
  fun _ => fits_modrm 0x84 r.num (Rm.map Reg8.num rm)
theorem testRm16R16 (rm : Rm Reg16) (r : Reg16) : Statement (.testRm16R16 rm r) :=
  fun _ => fits_modrm 0x85 r.num (Rm.map Reg16.num rm)
theorem testAlIb (ib : Byte) : Statement (.testAlIb ib) :=
  fun _ => fits_two _ _
theorem testAxIw (iw : Word) : Statement (.testAxIw iw) :=
  fun _ => fits_word _ _
theorem testRm8Ib (rm : Rm Reg8) (ib : Byte) : Statement (.testRm8Ib rm ib) :=
  fun _ => fits_modrm_byte 0xF6 0 (Rm.map Reg8.num rm) _
theorem testRm16Iw (rm : Rm Reg16) (iw : Word) : Statement (.testRm16Iw rm iw) :=
  fun _ => fits_modrm_word 0xF7 0 (Rm.map Reg16.num rm) _
theorem rolRm8One (rm : Rm Reg8) : Statement (.rolRm8One rm) :=
  fun _ => fits_modrm 0xD0 0 (Rm.map Reg8.num rm)
theorem rolRm16One (rm : Rm Reg16) : Statement (.rolRm16One rm) :=
  fun _ => fits_modrm 0xD1 0 (Rm.map Reg16.num rm)
theorem rolRm8Cl (rm : Rm Reg8) : Statement (.rolRm8Cl rm) :=
  fun _ => fits_modrm 0xD2 0 (Rm.map Reg8.num rm)
theorem rolRm16Cl (rm : Rm Reg16) : Statement (.rolRm16Cl rm) :=
  fun _ => fits_modrm 0xD3 0 (Rm.map Reg16.num rm)
theorem rorRm8One (rm : Rm Reg8) : Statement (.rorRm8One rm) :=
  fun _ => fits_modrm 0xD0 1 (Rm.map Reg8.num rm)
theorem rorRm16One (rm : Rm Reg16) : Statement (.rorRm16One rm) :=
  fun _ => fits_modrm 0xD1 1 (Rm.map Reg16.num rm)
theorem rorRm8Cl (rm : Rm Reg8) : Statement (.rorRm8Cl rm) :=
  fun _ => fits_modrm 0xD2 1 (Rm.map Reg8.num rm)
theorem rorRm16Cl (rm : Rm Reg16) : Statement (.rorRm16Cl rm) :=
  fun _ => fits_modrm 0xD3 1 (Rm.map Reg16.num rm)
theorem rclRm8One (rm : Rm Reg8) : Statement (.rclRm8One rm) :=
  fun _ => fits_modrm 0xD0 2 (Rm.map Reg8.num rm)
theorem rclRm16One (rm : Rm Reg16) : Statement (.rclRm16One rm) :=
  fun _ => fits_modrm 0xD1 2 (Rm.map Reg16.num rm)
theorem rclRm8Cl (rm : Rm Reg8) : Statement (.rclRm8Cl rm) :=
  fun _ => fits_modrm 0xD2 2 (Rm.map Reg8.num rm)
theorem rclRm16Cl (rm : Rm Reg16) : Statement (.rclRm16Cl rm) :=
  fun _ => fits_modrm 0xD3 2 (Rm.map Reg16.num rm)
theorem rcrRm8One (rm : Rm Reg8) : Statement (.rcrRm8One rm) :=
  fun _ => fits_modrm 0xD0 3 (Rm.map Reg8.num rm)
theorem rcrRm16One (rm : Rm Reg16) : Statement (.rcrRm16One rm) :=
  fun _ => fits_modrm 0xD1 3 (Rm.map Reg16.num rm)
theorem rcrRm8Cl (rm : Rm Reg8) : Statement (.rcrRm8Cl rm) :=
  fun _ => fits_modrm 0xD2 3 (Rm.map Reg8.num rm)
theorem rcrRm16Cl (rm : Rm Reg16) : Statement (.rcrRm16Cl rm) :=
  fun _ => fits_modrm 0xD3 3 (Rm.map Reg16.num rm)
theorem shlRm8One (rm : Rm Reg8) : Statement (.shlRm8One rm) :=
  fun _ => fits_modrm 0xD0 4 (Rm.map Reg8.num rm)
theorem shlRm16One (rm : Rm Reg16) : Statement (.shlRm16One rm) :=
  fun _ => fits_modrm 0xD1 4 (Rm.map Reg16.num rm)
theorem shlRm8Cl (rm : Rm Reg8) : Statement (.shlRm8Cl rm) :=
  fun _ => fits_modrm 0xD2 4 (Rm.map Reg8.num rm)
theorem shlRm16Cl (rm : Rm Reg16) : Statement (.shlRm16Cl rm) :=
  fun _ => fits_modrm 0xD3 4 (Rm.map Reg16.num rm)
theorem shrRm8One (rm : Rm Reg8) : Statement (.shrRm8One rm) :=
  fun _ => fits_modrm 0xD0 5 (Rm.map Reg8.num rm)
theorem shrRm16One (rm : Rm Reg16) : Statement (.shrRm16One rm) :=
  fun _ => fits_modrm 0xD1 5 (Rm.map Reg16.num rm)
theorem shrRm8Cl (rm : Rm Reg8) : Statement (.shrRm8Cl rm) :=
  fun _ => fits_modrm 0xD2 5 (Rm.map Reg8.num rm)
theorem shrRm16Cl (rm : Rm Reg16) : Statement (.shrRm16Cl rm) :=
  fun _ => fits_modrm 0xD3 5 (Rm.map Reg16.num rm)
theorem sarRm8One (rm : Rm Reg8) : Statement (.sarRm8One rm) :=
  fun _ => fits_modrm 0xD0 7 (Rm.map Reg8.num rm)
theorem sarRm16One (rm : Rm Reg16) : Statement (.sarRm16One rm) :=
  fun _ => fits_modrm 0xD1 7 (Rm.map Reg16.num rm)
theorem sarRm8Cl (rm : Rm Reg8) : Statement (.sarRm8Cl rm) :=
  fun _ => fits_modrm 0xD2 7 (Rm.map Reg8.num rm)
theorem sarRm16Cl (rm : Rm Reg16) : Statement (.sarRm16Cl rm) :=
  fun _ => fits_modrm 0xD3 7 (Rm.map Reg16.num rm)
theorem movRm8R8 (rm : Rm Reg8) (r : Reg8) : Statement (.movRm8R8 rm r) :=
  fun _ => fits_modrm 0x88 r.num (Rm.map Reg8.num rm)
theorem movRm16R16 (rm : Rm Reg16) (r : Reg16) : Statement (.movRm16R16 rm r) :=
  fun _ => fits_modrm 0x89 r.num (Rm.map Reg16.num rm)
theorem movR8Rm8 (r : Reg8) (rm : Rm Reg8) : Statement (.movR8Rm8 r rm) :=
  fun _ => fits_modrm 0x8A r.num (Rm.map Reg8.num rm)
theorem movR16Rm16 (r : Reg16) (rm : Rm Reg16) : Statement (.movR16Rm16 r rm) :=
  fun _ => fits_modrm 0x8B r.num (Rm.map Reg16.num rm)
theorem movRm16Sreg (rm : Rm Reg16) (sr : Sreg) : Statement (.movRm16Sreg rm sr) :=
  fun _ => fits_modrm 0x8C sr.num3 (Rm.map Reg16.num rm)
theorem movSregRm16 (sr : Sreg) (rm : Rm Reg16) : Statement (.movSregRm16 sr rm) :=
  fun _ => fits_modrm 0x8E sr.num3 (Rm.map Reg16.num rm)
theorem movAlMoffs (off : Word) : Statement (.movAlMoffs off) :=
  fun _ => fits_word _ _
theorem movAxMoffs (off : Word) : Statement (.movAxMoffs off) :=
  fun _ => fits_word _ _
theorem movMoffsAl (off : Word) : Statement (.movMoffsAl off) :=
  fun _ => fits_word _ _
theorem movMoffsAx (off : Word) : Statement (.movMoffsAx off) :=
  fun _ => fits_word _ _
theorem movR8Ib (r : Reg8) (ib : Byte) : Statement (.movR8Ib r ib) :=
  fun _ => fits_two _ _
theorem movR16Iw (r : Reg16) (iw : Word) : Statement (.movR16Iw r iw) :=
  fun _ => fits_word _ _
theorem movRm8Ib (rm : Rm Reg8) (ib : Byte) : Statement (.movRm8Ib rm ib) :=
  fun _ => fits_modrm_byte 0xC6 0 (Rm.map Reg8.num rm) _
theorem movRm16Iw (rm : Rm Reg16) (iw : Word) : Statement (.movRm16Iw rm iw) :=
  fun _ => fits_modrm_word 0xC7 0 (Rm.map Reg16.num rm) _
theorem xchgRm8R8 (rm : Rm Reg8) (r : Reg8) : Statement (.xchgRm8R8 rm r) :=
  fun _ => fits_modrm 0x86 r.num (Rm.map Reg8.num rm)
theorem xchgRm16R16 (rm : Rm Reg16) (r : Reg16) : Statement (.xchgRm16R16 rm r) :=
  fun _ => fits_modrm 0x87 r.num (Rm.map Reg16.num rm)
theorem xchgAxR16 (r : Reg16) : Statement (.xchgAxR16 r) :=
  fun _ => fits_one _
theorem leaR16M (r : Reg16) (m : MemOp) : Statement (.leaR16M r m) :=
  fun _ => fits_modrm 0x8D r.num (.mem m)
theorem lesR16M (r : Reg16) (m : MemOp) : Statement (.lesR16M r m) :=
  fun _ => fits_modrm 0xC4 r.num (.mem m)
theorem ldsR16M (r : Reg16) (m : MemOp) : Statement (.ldsR16M r m) :=
  fun _ => fits_modrm 0xC5 r.num (.mem m)
theorem pushR16 (r : Reg16) : Statement (.pushR16 r) :=
  fun _ => fits_one _
theorem pushRm16 (rm : Rm Reg16) : Statement (.pushRm16 rm) :=
  fun _ => fits_modrm 0xFF 6 (Rm.map Reg16.num rm)
theorem pushEs : Statement (.pushEs) :=
  fun _ => fits_one _
theorem pushCs : Statement (.pushCs) :=
  fun _ => fits_one _
theorem pushSs : Statement (.pushSs) :=
  fun _ => fits_one _
theorem pushDs : Statement (.pushDs) :=
  fun _ => fits_one _
theorem popR16 (r : Reg16) : Statement (.popR16 r) :=
  fun _ => fits_one _
theorem popRm16 (rm : Rm Reg16) : Statement (.popRm16 rm) :=
  fun _ => fits_modrm 0x8F 0 (Rm.map Reg16.num rm)
theorem popEs : Statement (.popEs) :=
  fun _ => fits_one _
theorem popSs : Statement (.popSs) :=
  fun _ => fits_one _
theorem popDs : Statement (.popDs) :=
  fun _ => fits_one _
theorem jo (cb : Byte) : Statement (.jo cb) :=
  fun _ => fits_two _ _
theorem jno (cb : Byte) : Statement (.jno cb) :=
  fun _ => fits_two _ _
theorem jb (cb : Byte) : Statement (.jb cb) :=
  fun _ => fits_two _ _
theorem jnb (cb : Byte) : Statement (.jnb cb) :=
  fun _ => fits_two _ _
theorem je (cb : Byte) : Statement (.je cb) :=
  fun _ => fits_two _ _
theorem jne (cb : Byte) : Statement (.jne cb) :=
  fun _ => fits_two _ _
theorem jbe (cb : Byte) : Statement (.jbe cb) :=
  fun _ => fits_two _ _
theorem jnbe (cb : Byte) : Statement (.jnbe cb) :=
  fun _ => fits_two _ _
theorem js (cb : Byte) : Statement (.js cb) :=
  fun _ => fits_two _ _
theorem jns (cb : Byte) : Statement (.jns cb) :=
  fun _ => fits_two _ _
theorem jp (cb : Byte) : Statement (.jp cb) :=
  fun _ => fits_two _ _
theorem jnp (cb : Byte) : Statement (.jnp cb) :=
  fun _ => fits_two _ _
theorem jl (cb : Byte) : Statement (.jl cb) :=
  fun _ => fits_two _ _
theorem jnl (cb : Byte) : Statement (.jnl cb) :=
  fun _ => fits_two _ _
theorem jle (cb : Byte) : Statement (.jle cb) :=
  fun _ => fits_two _ _
theorem jnle (cb : Byte) : Statement (.jnle cb) :=
  fun _ => fits_two _ _
theorem jmpShort (cb : Byte) : Statement (.jmpShort cb) :=
  fun _ => fits_two _ _
theorem jmpNear (cw : Word) : Statement (.jmpNear cw) :=
  fun _ => fits_word _ _
theorem jmpFar (off : Word) (seg : Word) : Statement (.jmpFar off seg) :=
  fun _ => fits_two_words _ _ _
theorem jmpRm16 (rm : Rm Reg16) : Statement (.jmpRm16 rm) :=
  fun _ => fits_modrm 0xFF 4 (Rm.map Reg16.num rm)
theorem jmpM1616 (m : MemOp) : Statement (.jmpM1616 m) :=
  fun _ => fits_modrm 0xFF 5 (.mem m)
theorem callNear (cw : Word) : Statement (.callNear cw) :=
  fun _ => fits_word _ _
theorem callFar (off : Word) (seg : Word) : Statement (.callFar off seg) :=
  fun _ => fits_two_words _ _ _
theorem callRm16 (rm : Rm Reg16) : Statement (.callRm16 rm) :=
  fun _ => fits_modrm 0xFF 2 (Rm.map Reg16.num rm)
theorem callM1616 (m : MemOp) : Statement (.callM1616 m) :=
  fun _ => fits_modrm 0xFF 3 (.mem m)
theorem ret : Statement (.ret) :=
  fun _ => fits_one _
theorem retIw (iw : Word) : Statement (.retIw iw) :=
  fun _ => fits_word _ _
theorem retf : Statement (.retf) :=
  fun _ => fits_one _
theorem retfIw (iw : Word) : Statement (.retfIw iw) :=
  fun _ => fits_word _ _
theorem loopne (cb : Byte) : Statement (.loopne cb) :=
  fun _ => fits_two _ _
theorem loope (cb : Byte) : Statement (.loope cb) :=
  fun _ => fits_two _ _
theorem loop (cb : Byte) : Statement (.loop cb) :=
  fun _ => fits_two _ _
theorem jcxz (cb : Byte) : Statement (.jcxz cb) :=
  fun _ => fits_two _ _
theorem clc : Statement (.clc) :=
  fun _ => fits_one _
theorem stc : Statement (.stc) :=
  fun _ => fits_one _
theorem cli : Statement (.cli) :=
  fun _ => fits_one _
theorem sti : Statement (.sti) :=
  fun _ => fits_one _
theorem cld : Statement (.cld) :=
  fun _ => fits_one _
theorem std : Statement (.std) :=
  fun _ => fits_one _
theorem cmc : Statement (.cmc) :=
  fun _ => fits_one _
theorem movsb : Statement (.movsb) :=
  fun _ => fits_one _
theorem movsw : Statement (.movsw) :=
  fun _ => fits_one _
theorem cmpsb : Statement (.cmpsb) :=
  fun _ => fits_one _
theorem cmpsw : Statement (.cmpsw) :=
  fun _ => fits_one _
theorem stosb : Statement (.stosb) :=
  fun _ => fits_one _
theorem stosw : Statement (.stosw) :=
  fun _ => fits_one _
theorem lodsb : Statement (.lodsb) :=
  fun _ => fits_one _
theorem lodsw : Statement (.lodsw) :=
  fun _ => fits_one _
theorem scasb : Statement (.scasb) :=
  fun _ => fits_one _
theorem scasw : Statement (.scasw) :=
  fun _ => fits_one _
theorem inAlIb (ib : Byte) : Statement (.inAlIb ib) :=
  fun _ => fits_two _ _
theorem inAxIb (ib : Byte) : Statement (.inAxIb ib) :=
  fun _ => fits_two _ _
theorem inAlDx : Statement (.inAlDx) :=
  fun _ => fits_one _
theorem inAxDx : Statement (.inAxDx) :=
  fun _ => fits_one _
theorem outIbAl (ib : Byte) : Statement (.outIbAl ib) :=
  fun _ => fits_two _ _
theorem outIbAx (ib : Byte) : Statement (.outIbAx ib) :=
  fun _ => fits_two _ _
theorem outDxAl : Statement (.outDxAl) :=
  fun _ => fits_one _
theorem outDxAx : Statement (.outDxAx) :=
  fun _ => fits_one _
theorem prefixEs : Statement (.prefixEs) :=
  fun _ => fits_one _
theorem prefixCs : Statement (.prefixCs) :=
  fun _ => fits_one _
theorem prefixSs : Statement (.prefixSs) :=
  fun _ => fits_one _
theorem prefixDs : Statement (.prefixDs) :=
  fun _ => fits_one _
theorem prefixRepne : Statement (.prefixRepne) :=
  fun _ => fits_one _
theorem prefixRep : Statement (.prefixRep) :=
  fun _ => fits_one _
theorem hlt : Statement (.hlt) :=
  fun _ => fits_one _
theorem invalidOp (op : Byte) : Statement (.invalidOp op) :=
  fun _ => fits_one _
theorem invalidMrm (op : Byte) (g : BitVec 3) (rm : Rm (BitVec 3)) : Statement (.invalidMrm op g rm) :=
  fun _ => fits_modrm op g rm

end Sys2Proof.Laws.EncodedLength
end

