-- ==== Sys2Proof/Laws/Setup.lean ====
section
/-! SUPPORT. The host's operations before the first step: what loading an image does to memory, and that attaching an
area hides nothing that was attached before it. -/

namespace Sys2Proof.Machine

/-- Loading keeps the canonical form. -/
theorem wf_loadBytes (hidden : Addr → Bool) {m : List Host.Cell} (hm : Memory.wf m = true) {a : Nat} {bs : List Byte}
    (h : a + bs.length ≤ 2 ^ 20) : Memory.wf (loadBytes hidden m a bs) = true := by
  induction bs generalizing m a with
  | nil => exact hm
  | cons b bs ih =>
    simp only [List.length_cons] at h
    refine ih ?_ (by omega)
    split
    · exact hm
    · exact Memory.wf_write hm b (by omega)

/-- Every byte after loading: the image's inside its range where no earlier area hides it, else as before. -/
theorem read_loadBytes (hidden : Addr → Bool) {m : List Host.Cell} (hm : Memory.wf m = true) {a : Nat} {bs : List Byte}
    (h : a + bs.length ≤ 2 ^ 20) (x : Addr) :
    Memory.read (loadBytes hidden m a bs) x.toNat =
      if hx : a ≤ x.toNat ∧ x.toNat - a < bs.length then
        if hidden x then Memory.read m x.toNat else bs[x.toNat - a]
      else Memory.read m x.toNat := by
  induction bs generalizing m a with
  | nil => simp [loadBytes]
  | cons b bs ih =>
    simp only [List.length_cons] at h
    have hw : Memory.wf (if hidden (BitVec.ofNat 20 a) then m else Memory.write m a b) = true := by
      split
      · exact hm
      · exact Memory.wf_write hm b (by omega)
    rw [loadBytes, ih hw (by omega)]
    have hr : Memory.read (if hidden (BitVec.ofNat 20 a) then m else Memory.write m a b) x.toNat =
        if x.toNat = a ∧ hidden x = false then b else Memory.read m x.toNat := by
      by_cases e : x.toNat = a
      · subst e
        simp only [BitVec.ofNat_toNat, BitVec.setWidth_eq]
        cases hidden x <;> simp [Memory.read_write hm]
      · split <;> simp [e, Memory.read_write hm]
    rw [hr]
    by_cases e : x.toNat = a
    · cases hh : hidden x <;> simp [e]
    · by_cases g : a + 1 ≤ x.toNat ∧ x.toNat - (a + 1) < bs.length
      · have g' : a ≤ x.toNat ∧ x.toNat - a < (b :: bs).length := by simp; omega
        have k : x.toNat - a = (x.toNat - (a + 1)) + 1 := by omega
        simp [g, g', e, k]
      · have g' : ¬ (a ≤ x.toNat ∧ x.toNat - a < (b :: bs).length) := by simp; omega
        rw [dif_neg g, dif_neg g', if_neg (fun h => e h.1)]

/-- An area is looked up after those attached before it. -/
theorem areaAt_append (areas : List MemArea) (a : MemArea) (pa : Addr) :
    areaAt (areas ++ [a]) pa = (areaAt areas pa).or (if areaCovers a pa then some a else none) := by
  simp [areaAt, List.find?_append, List.find?_singleton]

/-- The area at place `k` decides an address it covers exactly when no earlier one hides it. -/
theorem areaAt_of_not_hidden {areas : List MemArea} {k : Nat} {a : MemArea} {pa : Addr} (hk : areas[k]? = some a)
    (hc : areaCovers a pa = true) (hh : hiddenBefore areas k pa = false) : areaAt areas pa = some a := by
  obtain ⟨hl, ha⟩ := List.getElem?_eq_some_iff.mp hk
  have hn : (areas.take k).find? (fun b => areaCovers b pa) = none := by
    simpa [hiddenBefore] using hh
  rw [areaAt, ← List.take_append_drop k areas, List.find?_append, hn, List.drop_eq_getElem_cons hl, ha]
  simp [hc]

end Sys2Proof.Machine
end

