-- ==== Sys2Proof/Laws/Step.lean ====
section
/-! SUPPORT. What a step can do, said once: it is never refused, and a next state is the start of the step, its prefixes,
the effect of one instruction, and the end of the step. -/

namespace Sys2Proof.Machine

theorem Reach.trans {s t u : State} (h : Reach s t) (h' : Reach t u) : Reach s u := by
  induction h' with
  | start => exact h
  | regs g _ ih => exact .regs g ih
  | sregs g _ ih => exact .sregs g ih
  | ip v _ ih => exact .ip v ih
  | flags f _ ih => exact .flags f ih
  | draws n _ ih => exact .draws n ih
  | write pa v _ ih => exact .write pa v ih
  | device q _ ih => exact .device q ih
  | override o _ ih => exact .override o ih
  | rep m _ ih => exact .rep m ih

/-- The maps are constants of every instruction that goes on. -/
theorem Reach.maps {s t : State} (h : Reach s t) : t.areas = s.areas ∧ t.ports = s.ports ∧ t.ip0 = s.ip0 := by
  induction h with
  | start => exact ⟨rfl, rfl, rfl⟩
  | regs _ _ ih => exact ih
  | sregs _ _ ih => exact ih
  | ip _ _ ih => exact ih
  | flags _ _ ih => exact ih
  | draws _ _ ih => exact ih
  | write _ _ _ ih => exact ih
  | device _ _ ih => exact ih
  | override _ _ ih => exact ih
  | rep _ _ ih => exact ih

/-- Every instruction that goes on keeps the canonical form of memory. -/
theorem Reach.wf {s t : State} (h : Reach s t) (hw : Memory.wf s.mem = true) : Memory.wf t.mem = true := by
  induction h with
  | start => exact hw
  | regs _ _ ih => exact ih
  | sregs _ _ ih => exact ih
  | ip _ _ ih => exact ih
  | flags _ _ ih => exact ih
  | draws _ _ ih => exact ih
  | write _ _ _ ih => exact State.busWrite8_wf ih _ _
  | device _ _ ih => exact State.callback_wf ih _
  | override _ _ ih => exact ih
  | rep _ _ ih => exact ih

/-- The window holds six bytes. -/
theorem fetchWindow_length (s : State) : s.fetchWindow.length = 6 := by simp [State.fetchWindow, fetchLength]

/-- The window always decodes. -/
theorem decode_fetchWindow (s : State) : ∃ i rest, decode s.fetchWindow = .ok (i, rest) := by
  have hl := fetchWindow_length s
  match h : s.fetchWindow with
  | [] => simp [h] at hl
  | op :: bs =>
    have : bs.length = 5 := by simpa [h] using hl
    exact Form.run_total (opcodeForm op) (by omega)

/-- Run state and fault record are kept by an instruction that goes on. -/
theorem Reach.run {s t : State} (h : Reach s t) : t.runState = s.runState ∧ t.fault = s.fault := by
  induction h with
  | start => exact ⟨rfl, rfl⟩
  | regs _ _ ih => exact ih
  | sregs _ _ ih => exact ih
  | ip _ _ ih => exact ih
  | flags _ _ ih => exact ih
  | draws _ _ ih => exact ih
  | write _ _ _ ih => exact ih
  | device _ _ ih => exact ih
  | override _ _ ih => exact ih
  | rep _ _ ih => exact ih

/-- A prefix goes on. -/
theorem exec_of_isPrefix {i : Instr} (h : isPrefix i = true) (s : State) : ∃ t, exec i s = .next t ∧ Reach s t := by
  cases i <;>
    first
    | exact absurd (show false = true from h) Bool.false_ne_true
    | exact ⟨_, rfl, .override _ .start⟩
    | exact ⟨_, rfl, .rep _ .start⟩

/-- One turn of the fetch loop, with no refusal in sight. -/
theorem runItems_succ (fuel : Nat) (s : State) {i : Instr} {rest : List Byte} (hd : decode s.fetchWindow = .ok (i, rest)) :
    ∃ t, exec i (s.advanceIp (fetchLength - rest.length)) = .next t ∧
      Effect i (s.advanceIp (fetchLength - rest.length)) t ∧
      runItems (fuel + 1) s = if isPrefix i then runItems fuel t else .next t := by
  obtain ⟨t, ht, hr⟩ := exec_effect i (s.advanceIp (fetchLength - rest.length))
  exact ⟨t, ht, hr, by simp only [runItems, hd, ht]⟩

theorem runItems_ne_refused (fuel : Nat) (s : State) (r : Refusal) : runItems fuel s ≠ .refused r := by
  induction fuel generalizing s with
  | zero => simp [runItems]
  | succ fuel ih =>
    obtain ⟨i, rest, hd⟩ := decode_fetchWindow s
    obtain ⟨t, -, -, h⟩ := runItems_succ fuel s hd
    rw [h]
    split
    · exact ih t
    · simp

theorem runItems_fault {fuel : Nat} {s : State} {r : Fault} (_ : runItems fuel s = .fault r) : r = .prefixHang := by
  cases r
  rfl

/-- What the fetch loop answers: the prefixes and the instruction have been fetched and have set their latches
(`Reach s u`), and the instruction, which is no prefix, was executed at the state `u`. -/
theorem runItems_next {fuel : Nat} {s t : State} (h : runItems fuel s = .next t) :
    ∃ u i, Reach s u ∧ isPrefix i = false ∧ exec i u = .next t ∧ Effect i u t := by
  induction fuel generalizing s with
  | zero => simp [runItems] at h
  | succ fuel ih =>
    obtain ⟨i, rest, hd⟩ := decode_fetchWindow s
    obtain ⟨v, hx, he, hr⟩ := runItems_succ fuel s hd
    rw [hr] at h
    have hs : Reach s (s.advanceIp (fetchLength - rest.length)) := .ip _ .start
    by_cases hp : isPrefix i = true
    · rw [if_pos hp] at h
      obtain ⟨v', hx', hv⟩ := exec_of_isPrefix hp (s.advanceIp (fetchLength - rest.length))
      cases hx.symm.trans hx'
      obtain ⟨u, j, hu, hj⟩ := ih h
      exact ⟨u, j, (hs.trans hv).trans hu, hj⟩
    · rw [if_neg hp] at h
      cases h
      exact ⟨_, i, hs, by simpa using hp, hx, he⟩

/-- A step's next state: unchanged in `Halted` and `Faulted`; else the start of the step, the prefixes, the
instruction's effect, and the end of the step. -/
theorem step_next {s t : State} (h : step s = .next t) :
    (s.runnable = false ∧ t = s) ∨
    (s.runnable = true ∧ ∃ u i v, Reach s.begin u ∧ isPrefix i = false ∧ exec i u = .next v ∧ Effect i u v ∧
      t = v.finish) := by
  have run : ∀ s t, runStep s = .next t →
      ∃ u i v, Reach s.begin u ∧ isPrefix i = false ∧ exec i u = .next v ∧ Effect i u v ∧ t = v.finish := by
    intro s t h
    unfold runStep at h
    split at h
    · rename_i v hv
      cases h
      obtain ⟨u, i, h1, h2, h3, h4⟩ := runItems_next hv
      exact ⟨u, i, v, h1, h2, h3, h4, rfl⟩
    · cases h
    · cases h
  unfold step cycle at h
  split at h
  · exact .inr ⟨by simp [State.runnable, *], run s t h⟩
  · exact .inr ⟨by simp [State.runnable, *], run s t h⟩
  · cases h
    exact .inl ⟨by simp [State.runnable, *], rfl⟩
  · cases h
    exact .inl ⟨by simp [State.runnable, *], rfl⟩

/-- A step from a runnable state is one run of the fetch loop. -/
theorem step_of_runnable {s : State} (h : s.runnable = true) : step s = runStep s := by
  unfold step cycle
  split
  · rfl
  · rfl
  · simp_all [State.runnable]
  · simp_all [State.runnable]

end Sys2Proof.Machine
end

