-- ==== Sys2Proof/Tests/Slice0.lean ====
section
/-! SUPPORT. The model's own tests: the well-formedness checks, decoding of bytes written out from the spec's encodings,
single steps with the results the spec gives (the vectors T<n> and V<n> of spec/95_test_vectors.md, from its default
start state), and for each statement that has hypotheses a state and operands that meet them. -/

namespace Sys2Proof.Tests

open Sys2Proof.Machine Sys2Proof.Stated

/-! ### Helpers -/

def noFlags : Flags := ⟨false, false, false, false, false, false, false, false, false⟩

/-- The default start state of spec/95_test_vectors.md section 0. -/
def base : State := { State.reset with sregs := ⟨0, 0, 0, 0⟩, ip := 0x100, runState := .running }

/-- The state with bytes stored from a physical address on. -/
def poke (a : Nat) (bs : List Byte) (s : State) : State := { s with mem := loadBytes (fun _ => false) s.mem a bs }

/-- One step with the bytes at CS:IP ends in a next state of which `p` holds. -/
def after (bs : List Byte) (s : State) (p : State → Bool) : Bool :=
  match step (s.placeInstr bs) with
  | .next t => p t
  | .fault _ => false
  | .refused _ => false

/-- The bytes are one instruction, the one given, and encoding it gives them back. -/
def roundTrips (p : List Byte × Instr) : Bool :=
  match decode p.1 with
  | .ok (i, rest) => decide (i = p.2) && rest.isEmpty && decide (encode p.2 = p.1) && p.2.wf
  | .error _ => false

/-! ### Well-formedness: one term for each check, which it refuses -/

/-- `mod=00, rm=110` is the direct form: no operand `[BP]` without displacement (R107). -/
theorem test_wf_refuses_bp_without_displacement :
    ((Instr.addRm8R8 (.mem (.ind .bp)) .al).wf, (Instr.jmpM1616 (.ind .bp)).wf, (Instr.leaR16M .ax (.ind .bp)).wf,
      (Instr.addRm8R8 (.mem (.disp8 .bp 0)) .al).wf) = (false, false, false, true) := by decide

/-- Only the bytes of R125 are bare invalid opcodes. -/
theorem test_wf_refuses_populated_invalidOp :
    ((Instr.invalidOp 0x90).wf, (Instr.invalidOp 0x26).wf, (Instr.invalidOp 0x0F).wf) = (false, false, true) := by decide

/-- Only the encodings of R126 are invalid sub-encodings: 8E /3 is MOV DS, FF /5 with a memory operand is a jump. -/
theorem test_wf_refuses_valid_invalidMrm :
    ((Instr.invalidMrm 0x8E 3 (.reg 0)).wf, (Instr.invalidMrm 0xFF 5 (.mem (.ind .bx))).wf,
      (Instr.invalidMrm 0xFF 5 (.reg 3)).wf) = (false, false, true) := by decide

/-- The operand of an invalid sub-encoding is checked too. -/
theorem test_wf_refuses_invalidMrm_operand :
    ((Instr.invalidMrm 0xF6 1 (.mem (.ind .bp))).wf, (Instr.invalidMrm 0xF6 1 (.mem (.direct 0))).wf) = (false, true) := by
  decide

/-! ### Decoding, every constructor: bytes written out from the rows of R124 and R121 and the fields of R103 to R116 -/

theorem test_decode_addRm8R8_to_addRm16Ib :
    [([0x00, 0x3E, 0x34, 0x12], Instr.addRm8R8 (.mem (.direct 0x1234)) .bh),
     ([0x01, 0x67, 0xF2], Instr.addRm16R16 (.mem (.disp8 .bx 0xF2)) .sp),
     ([0x02, 0x8A, 0xCD, 0xAB], Instr.addR8Rm8 .cl (.mem (.disp16 .bpSi 0xABCD))),
     ([0x03, 0xF4], Instr.addR16Rm16 .si (.reg .sp)),
     ([0x04, 0xA4], Instr.addAlIb 0xA4),
     ([0x05, 0x24, 0xAE], Instr.addAxIw 0xAE24),
     ([0x80, 0x86, 0xCD, 0xAB, 0xB2], Instr.addRm8Ib (.mem (.disp16 .bp 0xABCD)) 0xB2),
     ([0x81, 0x01, 0x2A, 0xB8], Instr.addRm16Iw (.mem (.ind .bxDi)) 0xB82A),
     ([0x82, 0xC3, 0xC0], Instr.addRm8IbAlt (.reg .bl) 0xC0),
     ([0x83, 0x47, 0xFA, 0xC7], Instr.addRm16Ib (.mem (.disp8 .bx 0xFA)) 0xC7)].all roundTrips = true := by decide

theorem test_decode_orRm8R8_to_orRm16Ib :
    [([0x08, 0x8A, 0xCD, 0xAB], Instr.orRm8R8 (.mem (.disp16 .bpSi 0xABCD)) .cl),
     ([0x09, 0x35], Instr.orRm16R16 (.mem (.ind .di)) .si),
     ([0x0A, 0x1E, 0x34, 0x12], Instr.orR8Rm8 .bl (.mem (.direct 0x1234))),
     ([0x0B, 0xC2], Instr.orR16Rm16 .ax (.reg .dx)),
     ([0x0C, 0xEA], Instr.orAlIb 0xEA),
     ([0x0D, 0x42, 0xE0], Instr.orAxIw 0xE042),
     ([0x80, 0x0E, 0x34, 0x12, 0xF8], Instr.orRm8Ib (.mem (.direct 0x1234)) 0xF8),
     ([0x81, 0x4F, 0x02, 0x48, 0xEA], Instr.orRm16Iw (.mem (.disp8 .bx 0x02)) 0xEA48),
     ([0x82, 0xC9, 0x06], Instr.orRm8IbAlt (.reg .cl) 0x06),
     ([0x83, 0x0D, 0x0D], Instr.orRm16Ib (.mem (.ind .di)) 0x0D)].all roundTrips = true := by decide

theorem test_decode_adcRm8R8_to_adcRm16Ib :
    [([0x10, 0x1E, 0x34, 0x12], Instr.adcRm8R8 (.mem (.direct 0x1234)) .bl),
     ([0x11, 0x43, 0x06], Instr.adcRm16R16 (.mem (.disp8 .bpDi 0x06)) .ax),
     ([0x12, 0xAE, 0xCD, 0xAB], Instr.adcR8Rm8 .ch (.mem (.disp16 .bp 0xABCD))),
     ([0x13, 0xD0], Instr.adcR16Rm16 .dx (.reg .ax)),
     ([0x14, 0x30], Instr.adcAlIb 0x30),
     ([0x15, 0x60, 0x12], Instr.adcAxIw 0x1260),
     ([0x80, 0x92, 0xCD, 0xAB, 0x3E], Instr.adcRm8Ib (.mem (.disp16 .bpSi 0xABCD)) 0x3E),
     ([0x81, 0x15, 0x66, 0x1C], Instr.adcRm16Iw (.mem (.ind .di)) 0x1C66),
     ([0x82, 0xD7, 0x4C], Instr.adcRm8IbAlt (.reg .bh) 0x4C),
     ([0x83, 0x53, 0x0E, 0x53], Instr.adcRm16Ib (.mem (.disp8 .bpDi 0x0E)) 0x53)].all roundTrips = true := by decide

theorem test_decode_sbbRm8R8_to_sbbRm16Ib :
    [([0x18, 0xAE, 0xCD, 0xAB], Instr.sbbRm8R8 (.mem (.disp16 .bp 0xABCD)) .ch),
     ([0x19, 0x11], Instr.sbbRm16R16 (.mem (.ind .bxDi)) .dx),
     ([0x1A, 0x3E, 0x34, 0x12], Instr.sbbR8Rm8 .bh (.mem (.direct 0x1234))),
     ([0x1B, 0xE6], Instr.sbbR16Rm16 .sp (.reg .si)),
     ([0x1C, 0x76], Instr.sbbAlIb 0x76),
     ([0x1D, 0x7E, 0x44], Instr.sbbAxIw 0x447E),
     ([0x80, 0x1E, 0x34, 0x12, 0x84], Instr.sbbRm8Ib (.mem (.direct 0x1234)) 0x84),
     ([0x81, 0x5B, 0x16, 0x84, 0x4E], Instr.sbbRm16Iw (.mem (.disp8 .bpDi 0x16)) 0x4E84),
     ([0x82, 0xDD, 0x92], Instr.sbbRm8IbAlt (.reg .ch) 0x92),
     ([0x83, 0x19, 0x99], Instr.sbbRm16Ib (.mem (.ind .bxDi)) 0x99)].all roundTrips = true := by decide

theorem test_decode_andRm8R8_to_andRm16Ib :
    [([0x20, 0x3E, 0x34, 0x12], Instr.andRm8R8 (.mem (.direct 0x1234)) .bh),
     ([0x21, 0x67, 0x1A], Instr.andRm16R16 (.mem (.disp8 .bx 0x1A)) .sp),
     ([0x22, 0x8A, 0xCD, 0xAB], Instr.andR8Rm8 .cl (.mem (.disp16 .bpSi 0xABCD))),
     ([0x23, 0xF4], Instr.andR16Rm16 .si (.reg .sp)),
     ([0x24, 0xBC], Instr.andAlIb 0xBC),
     ([0x25, 0x9C, 0x76], Instr.andAxIw 0x769C),
     ([0x80, 0xA6, 0xCD, 0xAB, 0xCA], Instr.andRm8Ib (.mem (.disp16 .bp 0xABCD)) 0xCA),
     ([0x81, 0x21, 0xA2, 0x80], Instr.andRm16Iw (.mem (.ind .bxDi)) 0x80A2),
     ([0x82, 0xE3, 0xD8], Instr.andRm8IbAlt (.reg .bl) 0xD8),
     ([0x83, 0x67, 0x22, 0xDF], Instr.andRm16Ib (.mem (.disp8 .bx 0x22)) 0xDF)].all roundTrips = true := by decide

theorem test_decode_subRm8R8_to_subRm16Ib :
    [([0x28, 0x8A, 0xCD, 0xAB], Instr.subRm8R8 (.mem (.disp16 .bpSi 0xABCD)) .cl),
     ([0x29, 0x35], Instr.subRm16R16 (.mem (.ind .di)) .si),
     ([0x2A, 0x1E, 0x34, 0x12], Instr.subR8Rm8 .bl (.mem (.direct 0x1234))),
     ([0x2B, 0xC2], Instr.subR16Rm16 .ax (.reg .dx)),
     ([0x2C, 0x02], Instr.subAlIb 0x02),
     ([0x2D, 0xBA, 0xA8], Instr.subAxIw 0xA8BA),
     ([0x80, 0x2E, 0x34, 0x12, 0x10], Instr.subRm8Ib (.mem (.direct 0x1234)) 0x10),
     ([0x81, 0x6F, 0x2A, 0xC0, 0xB2], Instr.subRm16Iw (.mem (.disp8 .bx 0x2A)) 0xB2C0),
     ([0x82, 0xE9, 0x1E], Instr.subRm8IbAlt (.reg .cl) 0x1E),
     ([0x83, 0x2D, 0x25], Instr.subRm16Ib (.mem (.ind .di)) 0x25)].all roundTrips = true := by decide

theorem test_decode_xorRm8R8_to_xorRm16Ib :
    [([0x30, 0x1E, 0x34, 0x12], Instr.xorRm8R8 (.mem (.direct 0x1234)) .bl),
     ([0x31, 0x43, 0x2E], Instr.xorRm16R16 (.mem (.disp8 .bpDi 0x2E)) .ax),
     ([0x32, 0xAE, 0xCD, 0xAB], Instr.xorR8Rm8 .ch (.mem (.disp16 .bp 0xABCD))),
     ([0x33, 0xD0], Instr.xorR16Rm16 .dx (.reg .ax)),
     ([0x34, 0x48], Instr.xorAlIb 0x48),
     ([0x35, 0xD8, 0xDA], Instr.xorAxIw 0xDAD8),
     ([0x80, 0xB2, 0xCD, 0xAB, 0x56], Instr.xorRm8Ib (.mem (.disp16 .bpSi 0xABCD)) 0x56),
     ([0x81, 0x35, 0xDE, 0xE4], Instr.xorRm16Iw (.mem (.ind .di)) 0xE4DE),
     ([0x82, 0xF7, 0x64], Instr.xorRm8IbAlt (.reg .bh) 0x64),
     ([0x83, 0x73, 0x36, 0x6B], Instr.xorRm16Ib (.mem (.disp8 .bpDi 0x36)) 0x6B)].all roundTrips = true := by decide

theorem test_decode_cmpRm8R8_to_cmpRm16Ib :
    [([0x38, 0xAE, 0xCD, 0xAB], Instr.cmpRm8R8 (.mem (.disp16 .bp 0xABCD)) .ch),
     ([0x39, 0x11], Instr.cmpRm16R16 (.mem (.ind .bxDi)) .dx),
     ([0x3A, 0x3E, 0x34, 0x12], Instr.cmpR8Rm8 .bh (.mem (.direct 0x1234))),
     ([0x3B, 0xE6], Instr.cmpR16Rm16 .sp (.reg .si)),
     ([0x3C, 0x8E], Instr.cmpAlIb 0x8E),
     ([0x3D, 0xF6, 0x0C], Instr.cmpAxIw 0x0CF6),
     ([0x80, 0x3E, 0x34, 0x12, 0x9C], Instr.cmpRm8Ib (.mem (.direct 0x1234)) 0x9C),
     ([0x81, 0x7B, 0x3E, 0xFC, 0x16], Instr.cmpRm16Iw (.mem (.disp8 .bpDi 0x3E)) 0x16FC),
     ([0x82, 0xFD, 0xAA], Instr.cmpRm8IbAlt (.reg .ch) 0xAA),
     ([0x83, 0x39, 0xB1], Instr.cmpRm16Ib (.mem (.ind .bxDi)) 0xB1)].all roundTrips = true := by decide

theorem test_decode_incR16_to_negRm16 :
    [([0x43], Instr.incR16 .bx),
     ([0xFE, 0x47, 0x42], Instr.incRm8 (.mem (.disp8 .bx 0x42))),
     ([0xFF, 0x82, 0xCD, 0xAB], Instr.incRm16 (.mem (.disp16 .bpSi 0xABCD))),
     ([0x4C], Instr.decR16 .sp),
     ([0xFE, 0x0E, 0x34, 0x12], Instr.decRm8 (.mem (.direct 0x1234))),
     ([0xFF, 0x4B, 0x46], Instr.decRm16 (.mem (.disp8 .bpDi 0x46))),
     ([0xF6, 0x9E, 0xCD, 0xAB], Instr.negRm8 (.mem (.disp16 .bp 0xABCD))),
     ([0xF7, 0x19], Instr.negRm16 (.mem (.ind .bxDi)))].all roundTrips = true := by decide

theorem test_decode_mulRm8_to_idivRm16 :
    [([0xF6, 0xE3], Instr.mulRm8 (.reg .bl)),
     ([0xF7, 0x67, 0x4A], Instr.mulRm16 (.mem (.disp8 .bx 0x4A))),
     ([0xF6, 0xAA, 0xCD, 0xAB], Instr.imulRm8 (.mem (.disp16 .bpSi 0xABCD))),
     ([0xF7, 0x2D], Instr.imulRm16 (.mem (.ind .di))),
     ([0xF6, 0x36, 0x34, 0x12], Instr.divRm8 (.mem (.direct 0x1234))),
     ([0xF7, 0xF2], Instr.divRm16 (.reg .dx)),
     ([0xF6, 0xBE, 0xCD, 0xAB], Instr.idivRm8 (.mem (.disp16 .bp 0xABCD))),
     ([0xF7, 0x39], Instr.idivRm16 (.mem (.ind .bxDi)))].all roundTrips = true := by decide

theorem test_decode_notRm8_to_rolRm16Cl :
    [([0xF6, 0x16, 0x34, 0x12], Instr.notRm8 (.mem (.direct 0x1234))),
     ([0xF7, 0x57, 0x52], Instr.notRm16 (.mem (.disp8 .bx 0x52))),
     ([0x84, 0xC9], Instr.testRm8R8 (.reg .cl) .cl),
     ([0x85, 0x35], Instr.testRm16R16 (.mem (.ind .di)) .si),
     ([0xA8, 0x44], Instr.testAlIb 0x44),
     ([0xA9, 0x44, 0x8E], Instr.testAxIw 0x8E44),
     ([0xF6, 0x86, 0xCD, 0xAB, 0x52], Instr.testRm8Ib (.mem (.disp16 .bp 0xABCD)) 0x52),
     ([0xF7, 0xC0, 0x4A, 0x98], Instr.testRm16Iw (.reg .ax) 0x984A),
     ([0xD0, 0x06, 0x34, 0x12], Instr.rolRm8One (.mem (.direct 0x1234))),
     ([0xD1, 0x47, 0x5A], Instr.rolRm16One (.mem (.disp8 .bx 0x5A))),
     ([0xD2, 0x82, 0xCD, 0xAB], Instr.rolRm8Cl (.mem (.disp16 .bpSi 0xABCD))),
     ([0xD3, 0x05], Instr.rolRm16Cl (.mem (.ind .di)))].all roundTrips = true := by decide

theorem test_decode_rorRm8One_to_rcrRm16Cl :
    [([0xD0, 0xCF], Instr.rorRm8One (.reg .bh)),
     ([0xD1, 0x4B, 0x5E], Instr.rorRm16One (.mem (.disp8 .bpDi 0x5E))),
     ([0xD2, 0x8E, 0xCD, 0xAB], Instr.rorRm8Cl (.mem (.disp16 .bp 0xABCD))),
     ([0xD3, 0x09], Instr.rorRm16Cl (.mem (.ind .bxDi))),
     ([0xD0, 0x16, 0x34, 0x12], Instr.rclRm8One (.mem (.direct 0x1234))),
     ([0xD1, 0xD6], Instr.rclRm16One (.reg .si)),
     ([0xD2, 0x92, 0xCD, 0xAB], Instr.rclRm8Cl (.mem (.disp16 .bpSi 0xABCD))),
     ([0xD3, 0x15], Instr.rclRm16Cl (.mem (.ind .di))),
     ([0xD0, 0x1E, 0x34, 0x12], Instr.rcrRm8One (.mem (.direct 0x1234))),
     ([0xD1, 0x5B, 0x66], Instr.rcrRm16One (.mem (.disp8 .bpDi 0x66))),
     ([0xD2, 0xDD], Instr.rcrRm8Cl (.reg .ch)),
     ([0xD3, 0x19], Instr.rcrRm16Cl (.mem (.ind .bxDi)))].all roundTrips = true := by decide

theorem test_decode_shlRm8One_to_sarRm16Cl :
    [([0xD0, 0x26, 0x34, 0x12], Instr.shlRm8One (.mem (.direct 0x1234))),
     ([0xD1, 0x67, 0x6A], Instr.shlRm16One (.mem (.disp8 .bx 0x6A))),
     ([0xD2, 0xA2, 0xCD, 0xAB], Instr.shlRm8Cl (.mem (.disp16 .bpSi 0xABCD))),
     ([0xD3, 0xE4], Instr.shlRm16Cl (.reg .sp)),
     ([0xD0, 0x2E, 0x34, 0x12], Instr.shrRm8One (.mem (.direct 0x1234))),
     ([0xD1, 0x6B, 0x6E], Instr.shrRm16One (.mem (.disp8 .bpDi 0x6E))),
     ([0xD2, 0xAE, 0xCD, 0xAB], Instr.shrRm8Cl (.mem (.disp16 .bp 0xABCD))),
     ([0xD3, 0x29], Instr.shrRm16Cl (.mem (.ind .bxDi))),
     ([0xD0, 0xFB], Instr.sarRm8One (.reg .bl)),
     ([0xD1, 0x7F, 0x72], Instr.sarRm16One (.mem (.disp8 .bx 0x72))),
     ([0xD2, 0xBA, 0xCD, 0xAB], Instr.sarRm8Cl (.mem (.disp16 .bpSi 0xABCD))),
     ([0xD3, 0x3D], Instr.sarRm16Cl (.mem (.ind .di)))].all roundTrips = true := by decide

theorem test_decode_movRm8R8_to_movRm16Iw :
    [([0x88, 0x1E, 0x34, 0x12], Instr.movRm8R8 (.mem (.direct 0x1234)) .bl),
     ([0x89, 0xC2], Instr.movRm16R16 (.reg .dx) .ax),
     ([0x8A, 0xAE, 0xCD, 0xAB], Instr.movR8Rm8 .ch (.mem (.disp16 .bp 0xABCD))),
     ([0x8B, 0x11], Instr.movR16Rm16 .dx (.mem (.ind .bxDi))),
     ([0x8C, 0x0E, 0x34, 0x12], Instr.movRm16Sreg (.mem (.direct 0x1234)) .cs),
     ([0x8E, 0x57, 0x7A], Instr.movSregRm16 .ss (.mem (.disp8 .bx 0x7A))),
     ([0xA0, 0xB3, 0x47], Instr.movAlMoffs 0x47B3),
     ([0xA1, 0xB6, 0x4C], Instr.movAxMoffs 0x4CB6),
     ([0xA2, 0xB9, 0x51], Instr.movMoffsAl 0x51B9),
     ([0xA3, 0xBC, 0x56], Instr.movMoffsAx 0x56BC),
     ([0xB5, 0x6A], Instr.movR8Ib .ch 0x6A),
     ([0xB8, 0xC2, 0x60], Instr.movR16Iw .ax 0x60C2),
     ([0xC6, 0x06, 0x34, 0x12, 0x78], Instr.movRm8Ib (.mem (.direct 0x1234)) 0x78),
     ([0xC7, 0x47, 0x82, 0xC8, 0x6A], Instr.movRm16Iw (.mem (.disp8 .bx 0x82)) 0x6AC8)].all roundTrips = true := by decide

theorem test_decode_xchgRm8R8_to_ldsR16M :
    [([0x86, 0x8A, 0xCD, 0xAB], Instr.xchgRm8R8 (.mem (.disp16 .bpSi 0xABCD)) .cl),
     ([0x87, 0x35], Instr.xchgRm16R16 (.mem (.ind .di)) .si),
     ([0x97], Instr.xchgAxR16 .di),
     ([0x8D, 0x43, 0x86], Instr.leaR16M .ax (.disp8 .bpDi 0x86)),
     ([0xC4, 0xAE, 0xCD, 0xAB], Instr.lesR16M .bp (.disp16 .bp 0xABCD)),
     ([0xC5, 0x11], Instr.ldsR16M .dx (.ind .bxDi))].all roundTrips = true := by decide

theorem test_decode_pushR16_to_popDs :
    [([0x53], Instr.pushR16 .bx),
     ([0xFF, 0xF6], Instr.pushRm16 (.reg .si)),
     ([0x06], Instr.pushEs),
     ([0x0E], Instr.pushCs),
     ([0x16], Instr.pushSs),
     ([0x1E], Instr.pushDs),
     ([0x5D], Instr.popR16 .bp),
     ([0x8F, 0x01], Instr.popRm16 (.mem (.ind .bxDi))),
     ([0x07], Instr.popEs),
     ([0x17], Instr.popSs),
     ([0x1F], Instr.popDs)].all roundTrips = true := by decide

theorem test_decode_jo_to_jnl :
    [([0x70, 0xFD], Instr.jo 0xFD),
     ([0x71, 0x04], Instr.jno 0x04),
     ([0x72, 0x0B], Instr.jb 0x0B),
     ([0x73, 0x12], Instr.jnb 0x12),
     ([0x74, 0x19], Instr.je 0x19),
     ([0x75, 0x20], Instr.jne 0x20),
     ([0x76, 0x27], Instr.jbe 0x27),
     ([0x77, 0x2E], Instr.jnbe 0x2E),
     ([0x78, 0x35], Instr.js 0x35),
     ([0x79, 0x3C], Instr.jns 0x3C),
     ([0x7A, 0x43], Instr.jp 0x43),
     ([0x7B, 0x4A], Instr.jnp 0x4A),
     ([0x7C, 0x51], Instr.jl 0x51),
     ([0x7D, 0x58], Instr.jnl 0x58)].all roundTrips = true := by decide

theorem test_decode_jle_to_jmpM1616 :
    [([0x7E, 0x5F], Instr.jle 0x5F),
     ([0x7F, 0x66], Instr.jnle 0x66),
     ([0xEB, 0x6D], Instr.jmpShort 0x6D),
     ([0xE9, 0x31, 0x19], Instr.jmpNear 0x1931),
     ([0xEA, 0x34, 0x1E, 0x34, 0x1E], Instr.jmpFar 0x1E34 0x1E34),
     ([0xFF, 0xA6, 0xCD, 0xAB], Instr.jmpRm16 (.mem (.disp16 .bp 0xABCD))),
     ([0xFF, 0x29], Instr.jmpM1616 (.ind .bxDi))].all roundTrips = true := by decide

theorem test_decode_callNear_to_jcxz :
    [([0xE8, 0x3D, 0x2D], Instr.callNear 0x2D3D),
     ([0x9A, 0x40, 0x32, 0x40, 0x32], Instr.callFar 0x3240 0x3240),
     ([0xFF, 0x92, 0xCD, 0xAB], Instr.callRm16 (.mem (.disp16 .bpSi 0xABCD))),
     ([0xFF, 0x1D], Instr.callM1616 (.ind .di)),
     ([0xC3], Instr.ret),
     ([0xC2, 0x4C, 0x46], Instr.retIw 0x464C),
     ([0xCB], Instr.retf),
     ([0xCA, 0x52, 0x50], Instr.retfIw 0x5052),
     ([0xE0, 0xC8], Instr.loopne 0xC8),
     ([0xE1, 0xCF], Instr.loope 0xCF),
     ([0xE2, 0xD6], Instr.loop 0xD6),
     ([0xE3, 0xDD], Instr.jcxz 0xDD)].all roundTrips = true := by decide

theorem test_decode_clc_to_cmc :
    [([0xF8], Instr.clc),
     ([0xF9], Instr.stc),
     ([0xFA], Instr.cli),
     ([0xFB], Instr.sti),
     ([0xFC], Instr.cld),
     ([0xFD], Instr.std),
     ([0xF5], Instr.cmc)].all roundTrips = true := by decide

theorem test_decode_movsb_to_scasw :
    [([0xA4], Instr.movsb),
     ([0xA5], Instr.movsw),
     ([0xA6], Instr.cmpsb),
     ([0xA7], Instr.cmpsw),
     ([0xAA], Instr.stosb),
     ([0xAB], Instr.stosw),
     ([0xAC], Instr.lodsb),
     ([0xAD], Instr.lodsw),
     ([0xAE], Instr.scasb),
     ([0xAF], Instr.scasw)].all roundTrips = true := by decide

theorem test_decode_inAlIb_to_outDxAx :
    [([0xE4, 0x5B], Instr.inAlIb 0x5B),
     ([0xE5, 0x62], Instr.inAxIb 0x62),
     ([0xEC], Instr.inAlDx),
     ([0xED], Instr.inAxDx),
     ([0xE6, 0x77], Instr.outIbAl 0x77),
     ([0xE7, 0x7E], Instr.outIbAx 0x7E),
     ([0xEE], Instr.outDxAl),
     ([0xEF], Instr.outDxAx)].all roundTrips = true := by decide

theorem test_decode_prefixEs_to_hlt :
    [([0x26], Instr.prefixEs),
     ([0x2E], Instr.prefixCs),
     ([0x36], Instr.prefixSs),
     ([0x3E], Instr.prefixDs),
     ([0xF2], Instr.prefixRepne),
     ([0xF3], Instr.prefixRep),
     ([0xF4], Instr.hlt)].all roundTrips = true := by decide

/-- R125: the fifty unpopulated first bytes, one byte long. -/
theorem test_decode_unpopulated :
    (([0x0F, 0x27, 0x2F, 0x37, 0x3F, 0x98, 0x99, 0x9B, 0x9C, 0x9D, 0x9E, 0x9F, 0xF0, 0xF1] ++
      [0x60, 0x61, 0x62, 0x63, 0x64, 0x65, 0x66, 0x67, 0x68, 0x69, 0x6A, 0x6B, 0x6C, 0x6D, 0x6E, 0x6F] ++
      [0xC0, 0xC1, 0xC8, 0xC9, 0xCC, 0xCD, 0xCE, 0xCF, 0xD4, 0xD5, 0xD6, 0xD7] ++
      [0xD8, 0xD9, 0xDA, 0xDB, 0xDC, 0xDD, 0xDE, 0xDF] : List Byte).all fun b => roundTrips ([b], .invalidOp b)) =
      true := by decide

/-- R126: invalid sub-encodings end with the displacement. -/
theorem test_decode_invalid_sub_encodings :
    [([0x8C, 0xE0], Instr.invalidMrm 0x8C 4 (.reg 0)), ([0x8E, 0x7F, 0x05], .invalidMrm 0x8E 7 (.mem (.disp8 .bx 5))),
     ([0x8F, 0xC8], .invalidMrm 0x8F 1 (.reg 0)), ([0xC6, 0x0E, 0x34, 0x12], .invalidMrm 0xC6 1 (.mem (.direct 0x1234))),
     ([0xC7, 0xF8], .invalidMrm 0xC7 7 (.reg 0)), ([0xD0, 0xF0], .invalidMrm 0xD0 6 (.reg 0)),
     ([0xD3, 0xB0, 0xCD, 0xAB], .invalidMrm 0xD3 6 (.mem (.disp16 .bxSi 0xABCD))),
     ([0xF6, 0xC8], .invalidMrm 0xF6 1 (.reg 0)), ([0xF7, 0x0F], .invalidMrm 0xF7 1 (.mem (.ind .bx))),
     ([0xFE, 0xD0], .invalidMrm 0xFE 2 (.reg 0)), ([0xFF, 0x3F], .invalidMrm 0xFF 7 (.mem (.ind .bx))),
     ([0xFF, 0xDB], .invalidMrm 0xFF 3 (.reg 3)), ([0xFF, 0xEB], .invalidMrm 0xFF 5 (.reg 3)),
     ([0x8D, 0xC3], .invalidMrm 0x8D 0 (.reg 3)), ([0xC4, 0xC7], .invalidMrm 0xC4 0 (.reg 7)),
     ([0xC5, 0xFF], .invalidMrm 0xC5 7 (.reg 7))].all roundTrips = true := by decide

/-- A word of the opcode table: the opcode byte is bits 15..8 (R122). -/
theorem test_decodeTableWord :
    (decodeTableWord 16 0x00D8, decodeTableWord 16 0xB800, decodeTableWord 16 0xC506, decodeTableWord 8 0xF4) =
      (some (.addRm8R8 (.reg .al) .bl), some (.movR16Iw .ax 0), some (.ldsR16M .ax (.direct 0)), some .hlt) := by decide

/-- A table word placed after reset is what the next step runs: 40 is INC AX. -/
theorem test_withFetchWord :
    (match step (State.reset.withFetchWord 16 0x4000) with
     | .next t => decide (t.regs.ax = 1 ∧ t.ip = 1 ∧ t.sregs.cs = 0xFFFF ∧ t.runState = .running)
     | .fault _ => false
     | .refused _ => false) = true := by decide

/-! ### Single steps: the vectors of spec/95_test_vectors.md -/

/-- T2: MOV CX,[BP+0x10]. -/
theorem test_T2_movWordLoad :
    after [0x8B, 0x4E, 0x10] (poke 0x03210 [0xCD, 0xAB]
        { base with regs.bp := 0x200, sregs.ss := 0x300, sregs.ds := 0x500 }) fun t =>
      t.regs.cx = 0xABCD ∧ t.ip = 0x103 := by decide

/-- T3: MOV CX,[0x1234]. -/
theorem test_T3_movDirect :
    after [0x8B, 0x0E, 0x34, 0x12] (poke 0x01334 [0x78, 0x56] { base with sregs.ds := 0x10 }) fun t =>
      t.regs.cx = 0x5678 ∧ t.ip = 0x104 := by decide

/-- T4: MOV AH,BL. -/
theorem test_T4_movHighByte :
    after [0x88, 0xDC] { base with regs.ax := 0x1122, regs.bx := 0xEE } fun t =>
      t.regs.ax = 0xEE22 ∧ t.ip = 0x102 := by decide

/-- T5: MOV WORD [DI-2],0xBEEF. -/
theorem test_T5_movImmediateDisp8 :
    after [0xC7, 0x45, 0xFE, 0xEF, 0xBE] { base with regs.di := 0x400 } fun t =>
      t.ip = 0x105 ∧ t.byteAt 0x003FE = 0xEF ∧ t.byteAt 0x003FF = 0xBE := by decide

/-- T7: MOV BH,0x9C. -/
theorem test_T7_movImmediateHigh :
    after [0xB7, 0x9C] { base with regs.bx := 0x1234 } fun t =>
      t.regs.bx = 0x9C34 ∧ t.ip = 0x102 := by decide

/-- T9: MOV AL,[0x2000]. -/
theorem test_T9_movAccumulatorLoad :
    after [0xA0, 0x00, 0x20] (poke 0x02000 [0x5A] { base with regs.ax := 0xFF00 }) fun t =>
      t.regs.ax = 0xFF5A ∧ t.ip = 0x103 := by decide

/-- T10: MOV ES:[0x0010],AX. -/
theorem test_T10_movAccumulatorStoreOverride :
    after [0x26, 0xA3, 0x10, 0x00] { base with regs.ax := 0xCAFE, sregs.es := 0x2000 } fun t =>
      t.ip = 0x104 ∧ t.byteAt 0x20010 = 0xFE ∧ t.byteAt 0x20011 = 0xCA := by decide

/-- T11: MOV DS,AX. -/
theorem test_T11_movSegment :
    after [0x8E, 0xD8] { base with regs.ax := 0x4000 } fun t =>
      t.sregs.ds = 0x4000 ∧ t.ip = 0x102 := by decide

/-- T13: MOV [BX],SS. -/
theorem test_T13_movFromSegment :
    after [0x8C, 0x17] { base with regs.bx := 0x300, sregs.ss := 0x1234 } fun t =>
      t.ip = 0x102 ∧ t.byteAt 0x00300 = 0x34 ∧ t.byteAt 0x00301 = 0x12 := by decide

/-- T15: XCHG AL,[SI]. -/
theorem test_T15_xchgMemory :
    after [0x86, 0x04] (poke 0x00600 [0x22] { base with regs.ax := 0x11, regs.si := 0x600 }) fun t =>
      t.regs.ax = 0x22 ∧ t.ip = 0x102 ∧ t.byteAt 0x00600 = 0x11 := by decide

/-- T17: XCHG AX,CX. -/
theorem test_T17_xchgAx :
    after [0x91] { base with regs.ax := 0xAA, regs.cx := 0xBB } fun t =>
      t.regs.ax = 0xBB ∧ t.regs.cx = 0xAA ∧ t.ip = 0x101 := by decide

/-- T19: LEA AX,[BX+SI+0x7FFF]. -/
theorem test_T19_leaWraps :
    after [0x8D, 0x80, 0xFF, 0x7F] { base with regs.bx := 0x8000, regs.si := 0x2 } fun t =>
      t.regs.ax = 0x1 ∧ t.ip = 0x104 := by decide

/-- T22: PUSH AX with SP=0. -/
theorem test_T22_pushWraps :
    after [0x50] { base with regs.ax := 0xA55A, sregs.ss := 0x100 } fun t =>
      t.regs.sp = 0xFFFE ∧ t.ip = 0x101 ∧ t.byteAt 0x10FFE = 0x5A ∧ t.byteAt 0x10FFF = 0xA5 := by decide

/-- T23: PUSH SP. -/
theorem test_T23_pushSp :
    after [0x54] { base with regs.sp := 0x100 } fun t =>
      t.regs.sp = 0xFE ∧ t.ip = 0x101 ∧ t.byteAt 0x000FE = 0x00 ∧ t.byteAt 0x000FF = 0x01 := by decide

/-- T24: POP SP. -/
theorem test_T24_popSp :
    after [0x5C] (poke 0x00200 [0x34, 0x12] { base with regs.sp := 0x200 }) fun t =>
      t.regs.sp = 0x1234 ∧ t.ip = 0x101 := by decide

/-- T25: PUSH WORD [BX]. -/
theorem test_T25_pushMemory :
    after [0xFF, 0x37] (poke 0x00400 [0xEF, 0xBE] { base with regs.bx := 0x400, regs.sp := 0x200 }) fun t =>
      t.regs.sp = 0x1FE ∧ t.ip = 0x102 ∧ t.byteAt 0x001FE = 0xEF ∧ t.byteAt 0x001FF = 0xBE := by decide

/-- T26: PUSH CS. -/
theorem test_T26_pushCs :
    after [0x0E] { base with regs.sp := 0x100, sregs.cs := 0x20, ip := 0x0 } fun t =>
      t.regs.sp = 0xFE ∧ t.ip = 0x1 ∧ t.byteAt 0x000FE = 0x20 ∧ t.byteAt 0x000FF = 0x00 := by decide

/-- T28: POP ES. -/
theorem test_T28_popEs :
    after [0x07] (poke 0x000FE [0x00, 0xB8] { base with regs.sp := 0xFE }) fun t =>
      t.regs.sp = 0x100 ∧ t.sregs.es = 0xB800 ∧ t.ip = 0x101 := by decide

/-- T29: POP WORD [BX+2]. -/
theorem test_T29_popMemory :
    after [0x8F, 0x47, 0x02] (poke 0x000FE [0xAD, 0xDE] { base with regs.bx := 0x400, regs.sp := 0xFE }) fun t =>
      t.regs.sp = 0x100 ∧ t.ip = 0x103 ∧ t.byteAt 0x00402 = 0xAD ∧ t.byteAt 0x00403 = 0xDE := by decide

/-- T31: LDS BX,[SI]. -/
theorem test_T31_lds :
    after [0xC5, 0x1C] (poke 0x00300 [0x11, 0x22, 0x33, 0x44] { base with regs.si := 0x300 }) fun t =>
      t.regs.bx = 0x2211 ∧ t.sregs.ds = 0x4433 ∧ t.ip = 0x102 := by decide

/-- T32: LES DI,[BX]. -/
theorem test_T32_les :
    after [0xC4, 0x3F] (poke 0x00300 [0x00, 0x01, 0x00, 0xB8] { base with regs.bx := 0x300 }) fun t =>
      t.regs.di = 0x100 ∧ t.sregs.es = 0xB800 ∧ t.ip = 0x102 := by decide

/-- T33: MOV [0xFFFF],AX (word at segment end). -/
theorem test_T33_wordAcrossSegmentEnd :
    after [0xA3, 0xFF, 0xFF] { base with regs.ax := 0xBBAA, sregs.ds := 0x1000 } fun t =>
      t.ip = 0x103 ∧ t.byteAt 0x1FFFF = 0xAA ∧ t.byteAt 0x20000 = 0xBB := by decide

/-- T34: MOV [BX],AL into ROM. -/
theorem test_T34_storeToRom :
    after [0x88, 0x07] { base with regs.ax := 0x55, sregs.ds := 0xF600 } fun t =>
      t.ip = 0x102 ∧ t.byteAt 0xF6000 = 0 := by decide

/-- T35: MOV AL,[BX] from unmapped gap. -/
theorem test_T35_loadFromGap :
    after [0x8A, 0x07] { base with regs.ax := 0xFF, sregs.ds := 0xF000 } fun t =>
      t.regs.ax = 0x0 ∧ t.ip = 0x102 := by decide

/-- T41: ADD AX,BX. -/
theorem test_T41_addOverflow :
    after [0x01, 0xD8] { base with regs.ax := 0x7FFF, regs.bx := 0x1 } fun t =>
      t.regs.ax = 0x8000 ∧ t.ip = 0x102 ∧ [t.flags.CF, t.flags.PF, t.flags.AF, t.flags.ZF, t.flags.SF, t.flags.OF] =
      [false, true, true, false, true, true] := by decide

/-- T43: ADD BX,-1 (83 /0 sign-extended). -/
theorem test_T43_addSignExtended :
    after [0x83, 0xC3, 0xFF] { base with regs.bx := 0x5 } fun t =>
      t.regs.bx = 0x4 ∧ t.ip = 0x103 ∧ [t.flags.CF, t.flags.PF, t.flags.AF, t.flags.ZF, t.flags.SF, t.flags.OF] =
      [true, false, true, false, false, false] := by decide

/-- T44: ADD [BX],AL. -/
theorem test_T44_addMemoryHalfCarry :
    after [0x00, 0x07] (poke 0x00400 [0x01] { base with regs.ax := 0xF, regs.bx := 0x400 }) fun t =>
      t.ip = 0x102 ∧ t.byteAt 0x00400 = 0x10 ∧ [t.flags.CF, t.flags.PF, t.flags.AF, t.flags.ZF, t.flags.SF,
      t.flags.OF] = [false, false, true, false, false, false] := by decide

/-- T45: ADC AL,0 with CF=1. -/
theorem test_T45_adcCarry :
    after [0x14, 0x00] { base with regs.ax := 0xFF, flags.CF := true } fun t =>
      t.regs.ax = 0x0 ∧ t.ip = 0x102 ∧ [t.flags.CF, t.flags.PF, t.flags.AF, t.flags.ZF, t.flags.SF, t.flags.OF] =
      [true, true, true, true, false, false] := by decide

/-- T46: ADC AX,BX with CF=1. -/
theorem test_T46_adcWord :
    after [0x11, 0xD8] { base with regs.ax := 0x7FFF, flags.CF := true } fun t =>
      t.regs.ax = 0x8000 ∧ t.ip = 0x102 ∧ [t.flags.CF, t.flags.PF, t.flags.AF, t.flags.ZF, t.flags.SF, t.flags.OF] =
      [false, true, true, false, true, true] := by decide

/-- T47: SUB AL,1. -/
theorem test_T47_subBorrow :
    after [0x2C, 0x01] base fun t =>
      t.regs.ax = 0xFF ∧ t.ip = 0x102 ∧ [t.flags.CF, t.flags.PF, t.flags.AF, t.flags.ZF, t.flags.SF, t.flags.OF] =
      [true, true, true, false, true, false] := by decide

/-- T48: SUB AX,BX. -/
theorem test_T48_subOverflow :
    after [0x29, 0xD8] { base with regs.ax := 0x8000, regs.bx := 0x1 } fun t =>
      t.regs.ax = 0x7FFF ∧ t.ip = 0x102 ∧ [t.flags.CF, t.flags.PF, t.flags.AF, t.flags.ZF, t.flags.SF, t.flags.OF] =
      [false, true, true, false, false, true] := by decide

/-- T50: SBB AL,0 with CF=1. -/
theorem test_T50_sbbBorrow :
    after [0x1C, 0x00] { base with flags.CF := true } fun t =>
      t.regs.ax = 0xFF ∧ t.ip = 0x102 ∧ [t.flags.CF, t.flags.PF, t.flags.AF, t.flags.ZF, t.flags.SF, t.flags.OF] =
      [true, true, true, false, true, false] := by decide

/-- T51: SBB AX,BX with CF=1. -/
theorem test_T51_sbbWord :
    after [0x19, 0xD8] { base with regs.ax := 0x5, regs.bx := 0x4, flags.CF := true } fun t =>
      t.regs.ax = 0x0 ∧ t.ip = 0x102 ∧ [t.flags.CF, t.flags.PF, t.flags.AF, t.flags.ZF, t.flags.SF, t.flags.OF] =
      [false, true, false, true, false, false] := by decide

/-- T53: CMP AX,0x0010. -/
theorem test_T53_cmpWord :
    after [0x3D, 0x10, 0x00] { base with regs.ax := 0xF } fun t =>
      t.ip = 0x103 ∧ [t.flags.CF, t.flags.PF, t.flags.AF, t.flags.ZF, t.flags.SF, t.flags.OF] = [true, true, false,
      false, true, false] := by decide

/-- T54: CMP BYTE [SI],0x80. -/
theorem test_T54_cmpOverflow :
    after [0x80, 0x3C, 0x80] (poke 0x00300 [0x7F] { base with regs.si := 0x300 }) fun t =>
      t.ip = 0x103 ∧ [t.flags.CF, t.flags.PF, t.flags.AF, t.flags.ZF, t.flags.SF, t.flags.OF] = [true, true, false,
      false, true, true] := by decide

/-- T55: 82 /0 ADD CL,0x10 (alias of 80). -/
theorem test_T55_addAlternate :
    after [0x82, 0xC1, 0x10] { base with regs.cx := 0xF5 } fun t =>
      t.regs.cx = 0x5 ∧ t.ip = 0x103 ∧ [t.flags.CF, t.flags.PF, t.flags.AF, t.flags.ZF, t.flags.SF, t.flags.OF] =
      [true, true, false, false, false, false] := by decide

/-- T57: INC AX with CF=1. -/
theorem test_T57_incKeepsCarry :
    after [0x40] { base with regs.ax := 0xFFFF, flags.CF := true } fun t =>
      t.regs.ax = 0x0 ∧ t.ip = 0x101 ∧ [t.flags.CF, t.flags.PF, t.flags.AF, t.flags.ZF, t.flags.SF, t.flags.OF] =
      [true, true, true, true, false, false] := by decide

/-- T58: INC BYTE [BX]. -/
theorem test_T58_incMemory :
    after [0xFE, 0x07] (poke 0x00400 [0x0F] { base with regs.bx := 0x400 }) fun t =>
      t.ip = 0x102 ∧ t.byteAt 0x00400 = 0x10 ∧ [t.flags.CF, t.flags.PF, t.flags.AF, t.flags.ZF, t.flags.SF,
      t.flags.OF] = [false, false, true, false, false, false] := by decide

/-- T59: DEC AX (document). -/
theorem test_T59_decOverflow :
    after [0x48] { base with regs.ax := 0x8000 } fun t =>
      t.regs.ax = 0x7FFF ∧ t.ip = 0x101 ∧ [t.flags.CF, t.flags.PF, t.flags.AF, t.flags.ZF, t.flags.SF, t.flags.OF] =
      [false, true, true, false, false, true] := by decide

/-- T61: DEC WORD [BX]. -/
theorem test_T61_decMemory :
    after [0xFF, 0x0F] (poke 0x00400 [0x01, 0x00] { base with regs.bx := 0x400 }) fun t =>
      t.ip = 0x102 ∧ t.byteAt 0x00400 = 0x00 ∧ t.byteAt 0x00401 = 0x00 ∧ [t.flags.CF, t.flags.PF, t.flags.AF,
      t.flags.ZF, t.flags.SF, t.flags.OF] = [false, true, false, true, false, false] := by decide

/-- T63: NEG AL. -/
theorem test_T63_negMostNegative :
    after [0xF6, 0xD8] { base with regs.ax := 0x80 } fun t =>
      t.ip = 0x102 ∧ [t.flags.CF, t.flags.PF, t.flags.AF, t.flags.ZF, t.flags.SF, t.flags.OF] = [true, false, false,
      false, true, true] := by decide

/-- T64: NEG AX. -/
theorem test_T64_negZero :
    after [0xF7, 0xD8] { base with flags.CF := true } fun t =>
      t.ip = 0x102 ∧ [t.flags.CF, t.flags.PF, t.flags.AF, t.flags.ZF, t.flags.SF, t.flags.OF] = [false, true, false,
      true, false, false] := by decide

/-- T66: MUL BL. -/
theorem test_T66_mulByte :
    after [0xF6, 0xE3] { base with regs.ax := 0xFF, regs.bx := 0x2 } fun t =>
      t.regs.ax = 0x1FE ∧ t.ip = 0x102 ∧ [t.flags.CF, t.flags.OF] = [true, true] := by decide

/-- T67: MUL BX. -/
theorem test_T67_mulWord :
    after [0xF7, 0xE3] { base with regs.ax := 0xFFFF, regs.bx := 0xFFFF, regs.dx := 0x1111 } fun t =>
      t.regs.ax = 0x1 ∧ t.regs.dx = 0xFFFE ∧ t.ip = 0x102 ∧ [t.flags.CF, t.flags.OF] = [true, true] := by decide

/-- T68: IMUL BL. -/
theorem test_T68_imulByte :
    after [0xF6, 0xEB] { base with regs.ax := 0xFF, regs.bx := 0x1 } fun t =>
      t.regs.ax = 0xFFFF ∧ t.ip = 0x102 ∧ [t.flags.CF, t.flags.OF] = [false, false] := by decide

/-- T69: IMUL BL. -/
theorem test_T69_imulByteOverflow :
    after [0xF6, 0xEB] { base with regs.ax := 0x40, regs.bx := 0x2 } fun t =>
      t.regs.ax = 0x80 ∧ t.ip = 0x102 ∧ [t.flags.CF, t.flags.OF] = [true, true] := by decide

/-- T70: IMUL BX. -/
theorem test_T70_imulWord :
    after [0xF7, 0xEB] { base with regs.ax := 0xFFFE, regs.bx := 0x3, regs.dx := 0x1234 } fun t =>
      t.regs.ax = 0xFFFA ∧ t.regs.dx = 0xFFFF ∧ t.ip = 0x102 ∧ [t.flags.CF, t.flags.OF] = [false, false] := by decide

/-- T71: DIV BL. -/
theorem test_T71_divByte :
    after [0xF6, 0xF3] { base with regs.ax := 0x64, regs.bx := 0x7 } fun t =>
      t.regs.ax = 0x20E ∧ t.ip = 0x102 := by decide

/-- T72: DIV BX. -/
theorem test_T72_divWord :
    after [0xF7, 0xF3] { base with regs.bx := 0x2, regs.dx := 0x1 } fun t =>
      t.regs.ax = 0x8000 ∧ t.regs.dx = 0x0 ∧ t.ip = 0x102 := by decide

/-- T73: DIV BL quotient 256. -/
theorem test_T73_divOverflow :
    after [0xF6, 0xF3] { base with regs.ax := 0x100, regs.bx := 0x1 } fun t =>
      t.ip = 0x102 ∧ t.runState = .faulted ∧ t.fault = some ⟨.divideError, 0x0000, 0x0100⟩ := by decide

/-- T74: DIV BYTE [BX] by zero. -/
theorem test_T74_divByZero :
    after [0xF6, 0x37] { base with regs.ax := 0x5, regs.bx := 0x400 } fun t =>
      t.ip = 0x102 ∧ t.runState = .faulted ∧ t.fault = some ⟨.divideError, 0x0000, 0x0100⟩ := by decide

/-- T75: IDIV BL. -/
theorem test_T75_idivByte :
    after [0xF6, 0xFB] { base with regs.ax := 0xFFF9, regs.bx := 0x2 } fun t =>
      t.regs.ax = 0xFFFD ∧ t.ip = 0x102 := by decide

/-- T77: IDIV BX. -/
theorem test_T77_idivWord :
    after [0xF7, 0xFB] { base with regs.ax := 0xFFF9, regs.bx := 0xFFFE, regs.dx := 0xFFFF } fun t =>
      t.regs.ax = 0x3 ∧ t.ip = 0x102 := by decide

/-- T78: IDIV BL quotient -128. -/
theorem test_T78_idivMinus128 :
    after [0xF6, 0xFB] { base with regs.ax := 0xFF80, regs.bx := 0x1 } fun t =>
      t.ip = 0x102 ∧ t.runState = .faulted ∧ t.fault = some ⟨.divideError, 0x0000, 0x0100⟩ := by decide

/-- T80: IDIV BL quotient -127. -/
theorem test_T80_idivMinus127 :
    after [0xF6, 0xFB] { base with regs.ax := 0xFF81, regs.bx := 0x1 } fun t =>
      t.regs.ax = 0x81 ∧ t.ip = 0x102 := by decide

/-- T90: AND AL,0x0F. -/
theorem test_T90_andByte :
    after [0x24, 0x0F] { base with regs.ax := 0xF5, flags.CF := true, flags.OF := true } fun t =>
      t.regs.ax = 0x5 ∧ t.ip = 0x102 ∧ [t.flags.CF, t.flags.PF, t.flags.ZF, t.flags.SF, t.flags.OF] = [false, true,
      false, false, false] := by decide

/-- T93: OR WORD [BX],0x8000. -/
theorem test_T93_orMemory :
    after [0x81, 0x0F, 0x00, 0x80] (poke 0x00400 [0x01, 0x00] { base with regs.bx := 0x400 }) fun t =>
      t.ip = 0x104 ∧ t.byteAt 0x00400 = 0x01 ∧ t.byteAt 0x00401 = 0x80 ∧ [t.flags.CF, t.flags.PF, t.flags.ZF,
      t.flags.SF, t.flags.OF] = [false, false, false, true, false] := by decide

/-- T94: XOR AX,AX (document). -/
theorem test_T94_xorSelf :
    after [0x33, 0xC0] { base with regs.ax := 0x1234, flags.CF := true, flags.SF := true, flags.OF := true } fun t =>
      t.regs.ax = 0x0 ∧ t.ip = 0x102 ∧ [t.flags.CF, t.flags.PF, t.flags.ZF, t.flags.SF, t.flags.OF] = [false, true,
      true, false, false] := by decide

/-- T96: AND BX,-16 (83 /4). -/
theorem test_T96_andSignExtended :
    after [0x83, 0xE3, 0xF0] { base with regs.bx := 0x1234 } fun t =>
      t.regs.bx = 0x1230 ∧ t.ip = 0x103 ∧ [t.flags.CF, t.flags.PF, t.flags.ZF, t.flags.SF, t.flags.OF] = [false,
      true, false, false, false] := by decide

/-- T97: NOT AX. -/
theorem test_T97_notWord :
    after [0xF7, 0xD0] { base with regs.ax := 0xFF, flags.CF := true, flags.ZF := true } fun t =>
      t.regs.ax = 0xFF00 ∧ t.ip = 0x102 ∧ t.flags = { noFlags with CF := true, ZF := true } := by decide

/-- T98: NOT BYTE [BX]. -/
theorem test_T98_notMemory :
    after [0xF6, 0x17] (poke 0x00400 [0x55] { base with regs.bx := 0x400 }) fun t =>
      t.ip = 0x102 ∧ t.byteAt 0x00400 = 0xAA := by decide

/-- T99: TEST AL,0x80. -/
theorem test_T99_testImmediate :
    after [0xA8, 0x80] { base with regs.ax := 0x7F, flags.CF := true } fun t =>
      t.ip = 0x102 ∧ [t.flags.CF, t.flags.PF, t.flags.ZF, t.flags.SF, t.flags.OF] = [false, true, true, false,
      false] := by decide

/-- T101: TEST BYTE [BX],0x01 (F6 /0). -/
theorem test_T101_testMemory :
    after [0xF6, 0x07, 0x01] (poke 0x00400 [0x03] { base with regs.bx := 0x400 }) fun t =>
      t.ip = 0x103 ∧ [t.flags.CF, t.flags.PF, t.flags.ZF, t.flags.SF, t.flags.OF] = [false, false, false, false,
      false] := by decide

/-- T102: F6 /1 (no instruction). -/
theorem test_T102_invalidF6 :
    after [0xF6, 0xC8, 0x01] { base with regs.ax := 0x1 } fun t =>
      t.ip = 0x102 ∧ t.runState = .faulted ∧ t.fault = some ⟨.invalidOpcode, 0x0000, 0x0100⟩ := by decide

/-- T110: SHL AL,1. -/
theorem test_T110_shlOne :
    after [0xD0, 0xE0] { base with regs.ax := 0x81 } fun t =>
      t.regs.ax = 0x2 ∧ t.ip = 0x102 ∧ [t.flags.CF, t.flags.PF, t.flags.ZF, t.flags.SF, t.flags.OF] = [true, false,
      false, false, true] := by decide

/-- T114: SHL AL,CL (CL=8). -/
theorem test_T114_shlEight :
    after [0xD2, 0xE0] { base with regs.ax := 0x1, regs.cx := 0x8 } fun t =>
      t.regs.ax = 0x0 ∧ t.ip = 0x102 ∧ [t.flags.CF, t.flags.PF, t.flags.ZF, t.flags.SF] = [true, true, true, false]
      := by decide

/-- T115: SHL AX,CL (CL=0). -/
theorem test_T115_shlByZero :
    after [0xD3, 0xE0] { base with regs.ax := 0x8001, flags.CF := true, flags.ZF := true } fun t =>
      t.ip = 0x102 ∧ t.flags = { noFlags with CF := true, ZF := true } := by decide

/-- T116: SHR AL,1. -/
theorem test_T116_shrOne :
    after [0xD0, 0xE8] { base with regs.ax := 0x81 } fun t =>
      t.regs.ax = 0x40 ∧ t.ip = 0x102 ∧ [t.flags.CF, t.flags.PF, t.flags.ZF, t.flags.SF, t.flags.OF] = [true, false,
      false, false, true] := by decide

/-- T118: SAR AL,1. -/
theorem test_T118_sarOne :
    after [0xD0, 0xF8] { base with regs.ax := 0x81 } fun t =>
      t.regs.ax = 0xC0 ∧ t.ip = 0x102 ∧ [t.flags.CF, t.flags.PF, t.flags.ZF, t.flags.SF, t.flags.OF] = [true, true,
      false, true, false] := by decide

/-- T120: SAR AL,CL (CL=32). -/
theorem test_T120_sarThirtyTwo :
    after [0xD2, 0xF8] { base with regs.ax := 0x40, regs.cx := 0x20 } fun t =>
      t.regs.ax = 0x0 ∧ t.ip = 0x102 ∧ [t.flags.CF, t.flags.PF, t.flags.ZF, t.flags.SF] = [false, true, true, false]
      := by decide

/-- T121: ROL AL,1. -/
theorem test_T121_rolOne :
    after [0xD0, 0xC0] { base with regs.ax := 0x81 } fun t =>
      t.regs.ax = 0x3 ∧ t.ip = 0x102 ∧ [t.flags.CF, t.flags.PF, t.flags.AF, t.flags.ZF, t.flags.SF, t.flags.OF] =
      [true, false, false, false, false, true] := by decide

/-- T123: ROL AL,CL (CL=8). -/
theorem test_T123_rolFullTurn :
    after [0xD2, 0xC0] { base with regs.ax := 0x81, regs.cx := 0x8 } fun t =>
      t.ip = 0x102 ∧ [t.flags.CF, t.flags.PF, t.flags.AF, t.flags.ZF, t.flags.SF] = [true, false, false, false,
      false] := by decide

/-- T124: ROR AL,1. -/
theorem test_T124_rorOne :
    after [0xD0, 0xC8] { base with regs.ax := 0x1 } fun t =>
      t.regs.ax = 0x80 ∧ t.ip = 0x102 ∧ [t.flags.CF, t.flags.PF, t.flags.AF, t.flags.ZF, t.flags.SF, t.flags.OF] =
      [true, false, false, false, false, true] := by decide

/-- T126: RCL AL,1 with CF=1. -/
theorem test_T126_rclOne :
    after [0xD0, 0xD0] { base with regs.ax := 0x80, flags.CF := true } fun t =>
      t.regs.ax = 0x1 ∧ t.ip = 0x102 ∧ [t.flags.CF, t.flags.PF, t.flags.AF, t.flags.ZF, t.flags.SF, t.flags.OF] =
      [true, false, false, false, false, true] := by decide

/-- T127: RCL AL,CL (CL=9) with CF=1. -/
theorem test_T127_rclNine :
    after [0xD2, 0xD0] { base with regs.ax := 0x5A, regs.cx := 0x9, flags.CF := true } fun t =>
      t.ip = 0x102 ∧ [t.flags.CF, t.flags.PF, t.flags.AF, t.flags.ZF, t.flags.SF] = [true, false, false, false,
      false] := by decide

/-- T128: RCR AL,1 with CF=1. -/
theorem test_T128_rcrOne :
    after [0xD0, 0xD8] { base with regs.ax := 0x1, flags.CF := true } fun t =>
      t.regs.ax = 0x80 ∧ t.ip = 0x102 ∧ [t.flags.CF, t.flags.PF, t.flags.AF, t.flags.ZF, t.flags.SF, t.flags.OF] =
      [true, false, false, false, false, true] := by decide

/-- T129: RCR AX,CL (CL=2). -/
theorem test_T129_rcrTwo :
    after [0xD3, 0xD8] { base with regs.ax := 0x3, regs.cx := 0x2 } fun t =>
      t.regs.ax = 0x8000 ∧ t.ip = 0x102 ∧ [t.flags.CF, t.flags.PF, t.flags.AF, t.flags.ZF, t.flags.SF] = [true,
      false, false, false, false] := by decide

/-- T151: JNZ +2 not taken (document). -/
theorem test_T151_jneNotTaken :
    after [0x75, 0x02] { base with flags.ZF := true } fun t =>
      t.ip = 0x102 := by decide

/-- T153: JZ -128. -/
theorem test_T153_jeBackward :
    after [0x74, 0x80] { base with flags.ZF := true } fun t =>
      t.ip = 0x82 := by decide

/-- T155: JL +5 with SF=1 OF=1. -/
theorem test_T155_jlOverflow :
    after [0x7C, 0x05] { base with flags.SF := true, flags.OF := true } fun t =>
      t.ip = 0x102 := by decide

/-- T157: JA +5 with CF=0 ZF=0. -/
theorem test_T157_jnbe :
    after [0x77, 0x05] base fun t =>
      t.ip = 0x107 := by decide

/-- T158: JG +5 with ZF=0 SF=OF=1. -/
theorem test_T158_jnle :
    after [0x7F, 0x05] { base with flags.SF := true, flags.OF := true } fun t =>
      t.ip = 0x107 := by decide

/-- T162: JS +0x7F at IP=FFF0 (wraps). -/
theorem test_T162_jsWraps :
    after [0x78, 0x7F] { base with flags.SF := true, ip := 0xFFF0 } fun t =>
      t.ip = 0x71 := by decide

/-- T163: JMP short +0x10. -/
theorem test_T163_jmpShort :
    after [0xEB, 0x10] base fun t =>
      t.ip = 0x112 := by decide

/-- T164: JMP near -0x103. -/
theorem test_T164_jmpNear :
    after [0xE9, 0xFD, 0xFE] base fun t =>
      t.ip = 0x0 := by decide

/-- T165: JMP far 1234:5678. -/
theorem test_T165_jmpFar :
    after [0xEA, 0x78, 0x56, 0x34, 0x12] base fun t =>
      t.sregs.cs = 0x1234 ∧ t.ip = 0x5678 := by decide

/-- T167: JMP [BX]. -/
theorem test_T167_jmpIndirect :
    after [0xFF, 0x27] (poke 0x00400 [0x00, 0x30] { base with regs.bx := 0x400 }) fun t =>
      t.ip = 0x3000 := by decide

/-- T168: JMP FAR [BX]. -/
theorem test_T168_jmpFarIndirect :
    after [0xFF, 0x2F] (poke 0x00400 [0x10, 0x00, 0x00, 0x20] { base with regs.bx := 0x400 }) fun t =>
      t.sregs.cs = 0x2000 ∧ t.ip = 0x10 := by decide

/-- T169: FF /5 with mod=11. -/
theorem test_T169_invalidFarRegister :
    after [0xFF, 0xEB] { base with regs.bx := 0x400 } fun t =>
      t.ip = 0x102 ∧ t.runState = .faulted ∧ t.fault = some ⟨.invalidOpcode, 0x0000, 0x0100⟩ := by decide

/-- T170: CALL near +0x20. -/
theorem test_T170_callNear :
    after [0xE8, 0x20, 0x00] { base with regs.sp := 0x200 } fun t =>
      t.regs.sp = 0x1FE ∧ t.ip = 0x123 ∧ t.byteAt 0x001FE = 0x03 ∧ t.byteAt 0x001FF = 0x01 := by decide

/-- T171: CALL far 2000:0010. -/
theorem test_T171_callFar :
    after [0x9A, 0x10, 0x00, 0x00, 0x20] { base with regs.sp := 0x200, sregs.cs := 0x10, ip := 0x0 } fun t =>
      t.regs.sp = 0x1FC ∧ t.sregs.cs = 0x2000 ∧ t.ip = 0x10 ∧ t.byteAt 0x001FC = 0x05 ∧ t.byteAt 0x001FD = 0x00 ∧
      t.byteAt 0x001FE = 0x10 ∧ t.byteAt 0x001FF = 0x00 := by decide

/-- T173: CALL SP. -/
theorem test_T173_callSp :
    after [0xFF, 0xD4] { base with regs.sp := 0x200 } fun t =>
      t.regs.sp = 0x1FE ∧ t.ip = 0x200 ∧ t.byteAt 0x001FE = 0x02 ∧ t.byteAt 0x001FF = 0x01 := by decide

/-- T174: CALL FAR [BX]. -/
theorem test_T174_callFarIndirect :
    after [0xFF, 0x1F] (poke 0x00400 [0x34, 0x12, 0x00, 0x50]
        { base with regs.bx := 0x400, regs.sp := 0x200 }) fun t =>
      t.regs.sp = 0x1FC ∧ t.sregs.cs = 0x5000 ∧ t.ip = 0x1234 ∧ t.byteAt 0x001FC = 0x02 ∧ t.byteAt 0x001FD = 0x01 ∧
      t.byteAt 0x001FE = 0x00 ∧ t.byteAt 0x001FF = 0x00 := by decide

/-- T175: RET. -/
theorem test_T175_ret :
    after [0xC3] (poke 0x001FE [0x03, 0x01] { base with regs.sp := 0x1FE }) fun t =>
      t.regs.sp = 0x200 ∧ t.ip = 0x103 := by decide

/-- T176: RET 4. -/
theorem test_T176_retImmediate :
    after [0xC2, 0x04, 0x00] (poke 0x001FE [0x03, 0x01] { base with regs.sp := 0x1FE }) fun t =>
      t.regs.sp = 0x204 ∧ t.ip = 0x103 := by decide

/-- T177: RETF. -/
theorem test_T177_retf :
    after [0xCB] (poke 0x001FC [0x05, 0x00, 0x10, 0x00] { base with regs.sp := 0x1FC }) fun t =>
      t.regs.sp = 0x200 ∧ t.sregs.cs = 0x10 ∧ t.ip = 0x5 := by decide

/-- T178: RETF 2. -/
theorem test_T178_retfImmediate :
    after [0xCA, 0x02, 0x00] (poke 0x001FC [0x05, 0x00, 0x10, 0x00] { base with regs.sp := 0x1FC }) fun t =>
      t.regs.sp = 0x202 ∧ t.sregs.cs = 0x10 ∧ t.ip = 0x5 := by decide

/-- T181: LOOP +5 with CX=0. -/
theorem test_T181_loopFromZero :
    after [0xE2, 0x05] base fun t =>
      t.regs.cx = 0xFFFF ∧ t.ip = 0x107 := by decide

/-- T182: LOOPE +5 with CX=2 ZF=1. -/
theorem test_T182_loope :
    after [0xE1, 0x05] { base with regs.cx := 0x2, flags.ZF := true } fun t =>
      t.regs.cx = 0x1 ∧ t.ip = 0x107 := by decide

/-- T185: LOOPNE +5 with CX=1 ZF=0. -/
theorem test_T185_loopneEnds :
    after [0xE0, 0x05] { base with regs.cx := 0x1 } fun t =>
      t.regs.cx = 0x0 ∧ t.ip = 0x102 := by decide

/-- T186: JCXZ +5 with CX=0. -/
theorem test_T186_jcxz :
    after [0xE3, 0x05] base fun t =>
      t.ip = 0x107 := by decide

/-- T140: CLC. -/
theorem test_T140_clc :
    after [0xF8] { base with flags.CF := true, flags.ZF := true } fun t =>
      t.ip = 0x101 ∧ [t.flags.CF, t.flags.PF, t.flags.AF, t.flags.ZF, t.flags.SF, t.flags.OF] = [false, false,
      false, true, false, false] := by decide

/-- T141: STC. -/
theorem test_T141_stc :
    after [0xF9] base fun t =>
      t.ip = 0x101 ∧ [t.flags.CF, t.flags.PF, t.flags.AF, t.flags.ZF, t.flags.SF, t.flags.OF] = [true, false, false,
      false, false, false] := by decide

/-- T142: CMC. -/
theorem test_T142_cmc :
    after [0xF5] { base with flags.CF := true } fun t =>
      t.ip = 0x101 ∧ [t.flags.CF, t.flags.PF, t.flags.AF, t.flags.ZF, t.flags.SF, t.flags.OF] = [false, false,
      false, false, false, false] := by decide

/-- T144: STI. -/
theorem test_T144_sti :
    after [0xFB] base fun t =>
      t.ip = 0x101 ∧ [t.flags.CF, t.flags.PF, t.flags.AF, t.flags.ZF, t.flags.SF, t.flags.OF, t.flags.IF] = [false,
      false, false, false, false, false, true] := by decide

/-- T145: CLI. -/
theorem test_T145_cli :
    after [0xFA] { base with flags.IF := true } fun t =>
      t.ip = 0x101 ∧ [t.flags.CF, t.flags.PF, t.flags.AF, t.flags.ZF, t.flags.SF, t.flags.OF, t.flags.IF] = [false,
      false, false, false, false, false, false] := by decide

/-- T146: STD. -/
theorem test_T146_std :
    after [0xFD] base fun t =>
      t.ip = 0x101 ∧ [t.flags.CF, t.flags.PF, t.flags.AF, t.flags.ZF, t.flags.SF, t.flags.OF, t.flags.DF] = [false,
      false, false, false, false, false, true] := by decide

/-- T147: CLD. -/
theorem test_T147_cld :
    after [0xFC] { base with flags.DF := true } fun t =>
      t.ip = 0x101 ∧ [t.flags.CF, t.flags.PF, t.flags.AF, t.flags.ZF, t.flags.SF, t.flags.OF, t.flags.DF] = [false,
      false, false, false, false, false, false] := by decide

/-- T191: MOVSW with DF=1. -/
theorem test_T191_movswDown :
    after [0xA5] (poke 0x00300 [0x34, 0x12]
        { base with regs.si := 0x300, regs.di := 0x400, sregs.es := 0x1000, flags.DF := true }) fun t =>
      t.regs.si = 0x2FE ∧ t.regs.di = 0x3FE ∧ t.ip = 0x101 ∧ t.byteAt 0x10400 = 0x34 ∧ t.byteAt 0x10401 = 0x12 := by
      decide

/-- T194: REP MOVSB overlapping forward CX=4. -/
theorem test_T194_repMovsbOverlap :
    after [0xF3, 0xA4] (poke 0x00300 [0xAA, 0x11, 0x22, 0x33, 0x44]
        { base with regs.cx := 0x4, regs.si := 0x300, regs.di := 0x301 }) fun t =>
      t.regs.cx = 0x0 ∧ t.regs.si = 0x304 ∧ t.regs.di = 0x305 ∧ t.ip = 0x102 ∧ t.byteAt 0x00301 = 0xAA ∧ t.byteAt
      0x00302 = 0xAA ∧ t.byteAt 0x00303 = 0xAA ∧ t.byteAt 0x00304 = 0xAA := by decide

/-- T195: ES: REP MOVSB CX=2 (source ES:SI). -/
theorem test_T195_repMovsbOverride :
    after [0x26, 0xF3, 0xA4] (poke 0x10010 [0x07, 0x08]
        { base with regs.cx := 0x2, regs.si := 0x10, regs.di := 0x20, sregs.es := 0x1000 }) fun t =>
      t.regs.cx = 0x0 ∧ t.regs.si = 0x12 ∧ t.regs.di = 0x22 ∧ t.ip = 0x103 ∧ t.byteAt 0x10020 = 0x07 ∧ t.byteAt
      0x10021 = 0x08 := by decide

/-- T197: REP STOSW CX=2. -/
theorem test_T197_repStosw :
    after [0xF3, 0xAB] { base with regs.ax := 0xBEEF, regs.cx := 0x2, regs.di := 0x400 } fun t =>
      t.regs.cx = 0x0 ∧ t.regs.di = 0x404 ∧ t.ip = 0x102 ∧ t.byteAt 0x00400 = 0xEF ∧ t.byteAt 0x00401 = 0xBE ∧
      t.byteAt 0x00402 = 0xEF ∧ t.byteAt 0x00403 = 0xBE := by decide

/-- T198: LODSB. -/
theorem test_T198_lodsb :
    after [0xAC] (poke 0x00300 [0x42] { base with regs.ax := 0xFF00, regs.si := 0x300 }) fun t =>
      t.regs.ax = 0xFF42 ∧ t.regs.si = 0x301 ∧ t.ip = 0x101 := by decide

/-- T199: REP LODSW CX=2. -/
theorem test_T199_repLodsw :
    after [0xF3, 0xAD] (poke 0x00300 [0x01, 0x00, 0x02, 0x00] { base with regs.cx := 0x2, regs.si := 0x300 }) fun t =>
      t.regs.ax = 0x2 ∧ t.regs.cx = 0x0 ∧ t.regs.si = 0x304 ∧ t.ip = 0x102 := by decide

/-- T202: REPE CMPSB CX=4, differ at third. -/
theorem test_T202_repeCmpsb :
    after [0xF3, 0xA6] (poke 0x00400 [0x01, 0x02, 0x09, 0x04] (poke 0x00300 [0x01, 0x02, 0x03, 0x04]
        { base with regs.cx := 0x4, regs.si := 0x300, regs.di := 0x400 })) fun t =>
      t.regs.cx = 0x1 ∧ t.regs.si = 0x303 ∧ t.regs.di = 0x403 ∧ t.ip = 0x102 ∧ [t.flags.CF, t.flags.PF, t.flags.AF,
      t.flags.ZF, t.flags.SF, t.flags.OF] = [true, true, true, false, true, false] := by decide

/-- T204: REPE CMPSB CX=0 with ZF=0. -/
theorem test_T204_repeZeroCount :
    after [0xF3, 0xA6] { base with regs.si := 0x300, regs.di := 0x400 } fun t =>
      t.ip = 0x102 ∧ t.flags = noFlags := by decide

/-- T206: REPNE SCASB CX=5 finds at third. -/
theorem test_T206_repneScasb :
    after [0xF2, 0xAE] (poke 0x00400 [0x41, 0x42, 0x43, 0x44, 0x45]
        { base with regs.ax := 0x43, regs.cx := 0x5, regs.di := 0x400 }) fun t =>
      t.regs.cx = 0x2 ∧ t.regs.di = 0x403 ∧ t.ip = 0x102 ∧ [t.flags.CF, t.flags.PF, t.flags.AF, t.flags.ZF,
      t.flags.SF, t.flags.OF] = [false, true, false, true, false, false] := by decide

/-- T207: REPNE SCASW CX=2 not found. -/
theorem test_T207_repneScasw :
    after [0xF2, 0xAF] (poke 0x00400 [0x01, 0x00, 0x02, 0x00]
        { base with regs.ax := 0x9999, regs.cx := 0x2, regs.di := 0x400 }) fun t =>
      t.regs.cx = 0x0 ∧ t.regs.di = 0x404 ∧ t.ip = 0x102 ∧ [t.flags.CF, t.flags.PF, t.flags.AF, t.flags.ZF,
      t.flags.SF, t.flags.OF] = [false, false, false, false, true, false] := by decide

/-- T208: MOVSB with SI=FFFF DF=0 (wrap). -/
theorem test_T208_movsbWraps :
    after [0xA4] (poke 0x10FFF [0x5A]
        { base with regs.si := 0xFFFF, regs.di := 0xFFFF, sregs.es := 0x200, sregs.ds := 0x100 }) fun t =>
      t.regs.si = 0x0 ∧ t.regs.di = 0x0 ∧ t.ip = 0x101 ∧ t.byteAt 0x11FFF = 0x5A := by decide

/-- T230: IN AL,0x60 (registered, device returns 5A). -/
theorem test_T230_inByte :
    after [0xE4, 0x60] { base with regs.ax := 0xFFFF, ports := [0x0060], answers := [⟨0x5A, []⟩] } fun t =>
      t.regs.ax = 0xFF5A ∧ t.ip = 0x102 ∧ t.portLog.map PortEvent.request = [.read 0x0060] := by decide

/-- T233: IN AX,0x40 (only 0x40 registered). -/
theorem test_T233_inWordHalfRegistered :
    after [0xE5, 0x40] { base with regs.ax := 0xFFFF, ports := [0x0040], answers := [⟨0x34, []⟩] } fun t =>
      t.regs.ax = 0x34 ∧ t.ip = 0x102 ∧ t.portLog.map PortEvent.request = [.read 0x0040] := by decide

/-- T235: IN AX,DX with DX=FFFF (wraps to port 0000). -/
theorem test_T235_inWordPortWraps :
    after [0xED]
        { base with regs.dx := 0xFFFF, ports := [0xFFFF, 0x0000], answers := [⟨0xCD, []⟩, ⟨0xAB, []⟩] } fun t =>
      t.regs.ax = 0xABCD ∧ t.ip = 0x101 ∧ t.portLog.map PortEvent.request = [.read 0xFFFF, .read 0x0000] := by decide

/-- T238: OUT 0x42,AX. -/
theorem test_T238_outWord :
    after [0xE7, 0x42]
        { base with regs.ax := 0xBEEF, ports := [0x0042, 0x0043], answers := [⟨0, []⟩, ⟨0, []⟩] } fun t =>
      t.ip = 0x102 ∧ t.portLog.map PortEvent.request = [.write 0x0042 0xEF, .write 0x0043 0xBE] := by decide

/-- T237: OUT 0x80,AL (unregistered). -/
theorem test_T237_outUnregistered :
    after [0xE6, 0x80] { base with regs.ax := 0x1299 } fun t =>
      t.ip = 0x102 ∧ t.portLog = [] := by decide

/-- T239: OUT DX,AL with DX=03F8. -/
theorem test_T239_outDxByte :
    after [0xEE] { base with regs.ax := 0x41, regs.dx := 0x3F8, ports := [0x03F8], answers := [⟨0, []⟩] } fun t =>
      t.ip = 0x101 ∧ t.portLog.map PortEvent.request = [.write 0x03F8 0x41] := by decide

/-- T252: DS: MOV AL,[BP]. -/
theorem test_T252_dsOverride :
    after [0x3E, 0x8A, 0x46, 0x00] (poke 0x30010 [0x77] (poke 0x00010 [0x11]
        { base with regs.bp := 0x10, sregs.ss := 0x3000 })) fun t =>
      t.regs.ax = 0x11 ∧ t.ip = 0x104 := by decide

/-- T253: ES: CS: MOV AL,[BX] (last override wins). -/
theorem test_T253_lastOverrideWins :
    after [0x26, 0x2E, 0x8A, 0x07] (poke 0x20010 [0x99] (poke 0x00510 [0x44]
        { base with regs.bx := 0x10, sregs.es := 0x2000, sregs.cs := 0x50, ip := 0x0 })) fun t =>
      t.regs.ax = 0x44 ∧ t.ip = 0x4 := by decide

/-- T255: REP NOP (repeat prefix on non-string). -/
theorem test_T255_repNop :
    after [0xF3, 0x90] base fun t =>
      t.ip = 0x102 := by decide

/-- T257: ES: PUSH AX (stack ignores override). -/
theorem test_T257_stackIgnoresOverride :
    after [0x26, 0x50] { base with regs.ax := 0x1234, regs.sp := 0x200, sregs.es := 0x4000 } fun t =>
      t.regs.sp = 0x1FE ∧ t.ip = 0x102 ∧ t.byteAt 0x001FE = 0x34 ∧ t.byteAt 0x001FF = 0x12 := by decide

/-- T258: CS: STOSB (destination ignores override). -/
theorem test_T258_destinationIgnoresOverride :
    after [0x2E, 0xAA] { base with regs.ax := 0x55, regs.di := 0x400, sregs.es := 0x100 } fun t =>
      t.regs.di = 0x401 ∧ t.ip = 0x102 ∧ t.byteAt 0x01400 = 0x55 := by decide

/-- T260: HLT. -/
theorem test_T260_hlt :
    after [0xF4] base fun t =>
      t.ip = 0x101 ∧ t.runState = .halted := by decide

/-- T262: unpopulated opcode 0F. -/
theorem test_T262_unpopulated :
    after [0x0F] base fun t =>
      t.ip = 0x101 ∧ t.runState = .faulted ∧ t.fault = some ⟨.invalidOpcode, 0x0000, 0x0100⟩ := by decide

/-- T264: ES: then unpopulated F0. -/
theorem test_T264_prefixThenUnpopulated :
    after [0x26, 0xF0] base fun t =>
      t.ip = 0x102 ∧ t.runState = .faulted ∧ t.fault = some ⟨.invalidOpcode, 0x0000, 0x0100⟩ := by decide

/-- T281: MOV AL,5A fetched across FFFFF/00000. -/
theorem test_T281_fetchAcrossTop :
    after [0xB0, 0x5A] { base with sregs.cs := 0xFFFF, ip := 0xF } fun t =>
      t.regs.ax = 0x5A ∧ t.ip = 0x11 := by decide

/-- T283: NOP at IP=FFFF (IP wraps to 0000). -/
theorem test_T283_ipWraps :
    after [0x90] { base with ip := 0xFFFF } fun t =>
      t.ip = 0x0 := by decide

/-- V1: the reset vector's far jump, from the state after reset. -/
theorem test_V1_resetVector :
    after [0xEA, 0x00, 0x00, 0x00, 0xF0] State.reset fun t =>
      t.sregs.cs = 0xF000 ∧ t.ip = 0x0000 ∧ t.runState = .running ∧ t.flags = noFlags := by decide

/-- V12, T273: a halted machine's step changes nothing (R375). -/
theorem test_haltedStays : step { base with runState := .halted } = .next { base with runState := .halted } := rfl

/-- `load_image` of a short image is refused (R89). -/
theorem test_loadImage_sizeMismatch : (base.loadImage 3 0x9FFE [1]).isNone = true := by
  decide

/-- `load_image` of the last two bytes of ROM, which no program can write (R89). -/
theorem test_loadImage_rom :
    ((base.loadImage 3 0x9FFE [1, 2]).map fun t => (t.busRead8 0xFFFFE, t.busRead8 0xFFFFF)) =
      some (1, 2) := by decide

/-- An image loaded into an area that lies half in the gap and half behind the system ROM: the ROM, attached first, shows
its own bytes (R64, R415, U16). -/
theorem test_loadImage_first_attached_wins :
    (((base.attachArea ⟨0xF5FFE, 0xF6001, true, false⟩).loadImage 4 0 [1, 2, 3, 4]).map fun t =>
      [0xF5FFE, 0xF5FFF, 0xF6000, 0xF6001].map t.busRead8) = some [1, 2, 0, 0] := by decide

/-- A port may be registered once (R70). -/
theorem test_attachPort_twice :
    ((base.attachPort 0x60).map fun s => ((s.attachPort 0x60).isNone, (s.attachPort 0x61).isNone)) = some (true, false) := by
  decide

/-- `reset()` in Faulted has no effect (R386); elsewhere it leaves memory (R36). -/
theorem test_resetAgain :
    ({ base with runState := .faulted }.resetAgain = { base with runState := .faulted }) ∧
      (poke 0x500 [7] base).resetAgain.byteAt 0x500 = 7 := ⟨rfl, by decide⟩

/-- The default map has no overlap. -/
theorem test_defaultMap_disjoint : (disjointAreas (defaultAreas true), disjointAreas (defaultAreas false)) = (true, true) := by
  decide

/-! ### Witnesses: for each statement with hypotheses, a state and operands that meet them -/

/-- The one hypothesis of WordAccess, AluByteForms, AluWordForms, IncAndDec, NegSubtractsFromZero, NotAndTest, ShiftBytes,
ShiftWords, MovCopiesSource, MovDirectOffset, XchgSwapsOperands, PushStoresBelowStackTop, PopTakesStackTop and
CallsPushReturnAddress, and a premise of several others: memory in canonical form, with cells listed. -/
theorem witness_memory_wf : Memory.wf (poke 0x500 [1, 0, 2] base).mem = true ∧ (poke 0x500 [1, 0, 2] base).mem ≠ [] := by
  decide

theorem witness_DecodeOfEncode : (Instr.movRm16Iw (.mem (.disp16 .bp 0xFFFF)) 0x8000).wf = true := by decide

theorem witness_EncodeOfDecode : decode [0xC7, 0x86, 0xFF, 0xFF, 0x00, 0x80, 0x90] =
    .ok (.movRm16Iw (.mem (.disp16 .bp 0xFFFF)) 0x8000, [0x90]) := by decide

theorem witness_SixBytesDecode : 6 ≤ ([0xC7, 0x86, 0xFF, 0xFF, 0x00, 0x80] : List Byte).length := by decide

/-- Both ways of the equivalence occur, and so does the second clause. -/
theorem witness_UnpopulatedBytes : decode [0x60, 0x90] = .ok (.invalidOp 0x60, [0x90]) ∧
    ∀ i ∈ (decode [0x70, 0x90]).toOption, i.1 ≠ .invalidOp 0x70 := by decide

theorem witness_InvalidSubEncodings : (Rm.mem (R := BitVec 3) (.disp8 .bp 0)).wf = true ∧
    (Rm.reg (7 : BitVec 3)).wf = true := by decide

/-- MOV WORD [BP-1],8000 at CS:IP = FFFF:000D: the bytes lie on both sides of the top of memory. -/
theorem witness_StepRunsDecoded :
    let i := Instr.movRm16Iw (.mem (.disp8 .bp 0xFF)) 0x8000
    let s := { base with sregs.cs := 0xFFFF, ip := 0x000D }.placeInstr (encode i)
    s.runnable = true ∧ i.wf = true ∧ isPrefix i = false ∧ FetchesAs s (encode i) := by
  unfold FetchesAs; decide

/-- Three prefixes of both kinds before MOVSB, IP wrapping. -/
theorem witness_StepRunsPrefixed :
    let ps : List Byte := [0x26, 0xF2, 0x2E]
    let s := { base with ip := 0xFFFE }.placeInstr (ps ++ encode .movsb)
    s.runnable = true ∧ Instr.movsb.wf = true ∧ isPrefix .movsb = false ∧ (∀ p ∈ ps, p ∈ prefixBytes) ∧
      ps.length < 2 ^ 16 ∧ FetchesAs s (ps ++ encode .movsb) := by
  unfold FetchesAs; decide

/-- Reading a run of cells of one byte. -/
theorem read_run (v : Byte) (n lo a : Nat) (h : lo ≤ a) (h' : a < lo + n) :
    Memory.read ((List.range' lo n).map fun k => (k, v)) a = v := by
  induction n generalizing lo with
  | zero => omega
  | succ n ih =>
    simp only [List.range'_succ, List.map_cons, Memory.read]
    split
    · rfl
    · exact ih (lo + 1) (by omega) (by omega)

theorem isReadable_first {a : MemArea} {pa : Addr} (rest : List MemArea) (h : areaCovers a pa = true) :
    isReadable (a :: rest) pa = a.readable := by simp [isReadable, areaAt, h]

/-- A code segment of prefix bytes: `Hangs` is met. -/
theorem witness_OnlyPrefixesHang :
    { base with mem := (List.range' 0 65536).map fun k => (k, 0x26) }.Hangs ∧ ¬ base.Hangs := by
  refine ⟨⟨rfl, fun offset => ?_⟩, fun h => absurd (h.2 0) (by decide)⟩
  have hb : ∀ pa : Addr, pa.toNat < 65536 → isReadable base.areas pa = true := by
    intro pa h
    have hc : areaCovers ⟨0x00000, 0x9FFFF, true, true⟩ pa = true := by simp [areaCovers]; omega
    exact isReadable_first _ hc
  have hp : (phys 0 offset).toNat < 65536 := by
    have := offset.isLt
    simp [phys]; omega
  have hr : State.busRead8 { base with mem := (List.range' 0 65536).map fun k => (k, 0x26) } (phys 0 offset) = 0x26 := by
    rw [State.busRead8, if_pos (hb _ hp)]
    exact read_run _ _ _ _ (by omega) (by omega)
  exact (congrArg (· ∈ prefixBytes) hr).mpr (by decide)

theorem witness_HaltedAndFaultedStay : ∃ s t : State, s.runState = .halted ∧ t.runState = .faulted :=
  ⟨{ base with runState := .halted }, { base with runState := .faulted }, rfl, rfl⟩

/-- The clauses: an instruction that halts, two that fault, one that goes on; and a step. -/
theorem witness_RunStateTransitions : base.runnable = true ∧ State.reset.runnable = true ∧
    (∃ t, exec .hlt base = .next t ∧ t.runState = .halted) ∧
    (∃ t, exec (.divRm8 (.reg .al)) base = .next t ∧ t.runState = .faulted) ∧
    (∃ t, exec (.invalidOp 0x0F) base = .next t ∧ t.runState = .faulted) ∧
    (∃ t, exec .cmc base = .next t ∧ t.runState ≠ .halted ∧ t.runState ≠ .faulted) ∧
    after [0xF4] base fun t => t.runState ≠ .reset :=
  ⟨rfl, rfl, ⟨_, rfl, rfl⟩, ⟨_, rfl, rfl⟩, ⟨_, rfl, rfl⟩, ⟨_, rfl, by decide, by decide⟩, by decide⟩

/-- A state that meets the invariant and steps; also a faulted one. -/
theorem witness_StepKeepsInvariant :
    (State.reset.Inv ∧ ∃ t, step State.reset = .next t) ∧
      { base with runState := .faulted, fault := some ⟨.divideError, 0, 0x100⟩ }.Inv := by
  refine ⟨⟨?_, ?_⟩, ?_⟩
  · simp [State.Inv, State.reset, Memory.wf, Memory.wfFrom]
  · have h : (match step State.reset with | .next _ => true | .fault _ => false | .refused _ => false) = true := by decide
    revert h
    cases step State.reset with
    | next t => exact fun _ => ⟨t, rfl⟩
    | fault r => simp
    | refused r => simp
  · simp [State.Inv, base, State.reset, Memory.wf, Memory.wfFrom]

theorem witness_ResetHasInvariant : base.Inv := by simp [State.Inv, base, State.reset, Memory.wf, Memory.wfFrom]

/-- A step that has a next state. -/
theorem witness_MapsAreConstant : after [0x90] base fun _ => true := by decide

/-- A store to ROM, and to the gap of the default map. -/
theorem witness_ReadOnlyBytesStay : Memory.wf base.mem = true ∧ isWritable base.areas 0xF6000 = false ∧
    isWritable base.areas 0xF5FFF = false ∧ after [0x88, 0x07] { base with sregs.ds := 0xF600 } (fun _ => true) := by decide

theorem witness_ControlFlagWriters : ∀ i ∈ [Instr.sti, .cli, .std, .cld, .cmc], ∃ t, exec i base = .next t := by
  intro i hi
  simp only [List.mem_cons, List.not_mem_nil, or_false] at hi
  rcases hi with rfl | rfl | rfl | rfl | rfl <;> exact ⟨_, rfl⟩

theorem witness_RepeatIgnoredByOthers : isPrefix (.xchgAxR16 .ax) = false ∧ ∀ c, (c, Instr.xchgAxR16 .ax) ∉ strings := by
  decide

/-- Prefixed 0F and an invalid sub-encoding with a displacement. -/
theorem witness_InvalidOpcodeFaults :
    let s := base.placeInstr [0x26, 0xF3, 0x0F]
    let u := base.placeInstr [0xC6, 0x4F, 0x05]
    (s.runnable = true ∧ (Instr.invalidOp 0x0F).wf = true ∧ (∀ p ∈ ([0x26, 0xF3] : List Byte), p ∈ prefixBytes) ∧
      FetchesAs s ([0x26, 0xF3] ++ encode (.invalidOp 0x0F))) ∧
    (u.runnable = true ∧ (Instr.invalidMrm 0xC6 1 (.mem (.disp8 .bx 5))).wf = true ∧
      FetchesAs u ([] ++ encode (.invalidMrm 0xC6 1 (.mem (.disp8 .bx 5))))) := by
  unfold FetchesAs; decide

/-- For each division a zero divisor, and the first quotient out of range (both signs of a signed one). -/
theorem witness_DivideErrorFaults :
    let z := base
    let b (ax : Word) := { base with regs.ax := ax, regs.bx := 1 }
    let w (dx ax : Word) := { base with regs.dx := dx, regs.ax := ax, regs.bx := 1 }
    ((z.readRm8 (.reg .bl)).toNat = 0 ∧ 255 < ((b 0x100).r16 .ax).toNat / ((b 0x100).readRm8 (.reg .bl)).toNat) ∧
    ((z.readRm16 (.reg .bx)).toNat = 0 ∧
      65535 < (((w 1 0).r16 .dx).toNat * 65536 + ((w 1 0).r16 .ax).toNat) / ((w 1 0).readRm16 (.reg .bx)).toNat) ∧
    ((z.readRm8 (.reg .bl)).toInt = 0 ∧
      127 < ((b 0x0080).r16 .ax).toInt.natAbs / ((b 0x0080).readRm8 (.reg .bl)).toInt.natAbs ∧
      127 < ((b 0xFF80).r16 .ax).toInt.natAbs / ((b 0xFF80).readRm8 (.reg .bl)).toInt.natAbs) ∧
    (z.readRm16 (.reg .bx)).toInt = 0 ∧
      32767 < ((w 0 0x8000).r16 .dx ++ (w 0 0x8000).r16 .ax).toInt.natAbs /
        ((w 0 0x8000).readRm16 (.reg .bx)).toInt.natAbs ∧
      32767 < ((w 0xFFFF 0x8000).r16 .dx ++ (w 0xFFFF 0x8000).r16 .ax).toInt.natAbs /
        ((w 0xFFFF 0x8000).readRm16 (.reg .bx)).toInt.natAbs := by decide

/-- For each division the last quotient in range (both signs of a signed one). -/
theorem witness_DivideQuotientRemainder :
    let b (ax : Word) := { base with regs.ax := ax, regs.bx := 1 }
    let w (dx ax : Word) := { base with regs.dx := dx, regs.ax := ax, regs.bx := 1 }
    (((b 0xFF).readRm8 (.reg .bl)).toNat ≠ 0 ∧ ((b 0xFF).r16 .ax).toNat / ((b 0xFF).readRm8 (.reg .bl)).toNat = 255) ∧
    (((w 0 0xFFFF).readRm16 (.reg .bx)).toNat ≠ 0 ∧
      (((w 0 0xFFFF).r16 .dx).toNat * 65536 + ((w 0 0xFFFF).r16 .ax).toNat) /
        ((w 0 0xFFFF).readRm16 (.reg .bx)).toNat = 65535) ∧
    (((b 0x7F).readRm8 (.reg .bl)).toInt ≠ 0 ∧ ((b 0xFF81).readRm8 (.reg .bl)).toInt ≠ 0 ∧
      ((b 0x7F).r16 .ax).toInt.natAbs / ((b 0x7F).readRm8 (.reg .bl)).toInt.natAbs = 127 ∧
      ((b 0xFF81).r16 .ax).toInt.natAbs / ((b 0xFF81).readRm8 (.reg .bl)).toInt.natAbs = 127) ∧
    ((w 0 0x7FFF).readRm16 (.reg .bx)).toInt ≠ 0 ∧ ((w 0xFFFF 0x8001).readRm16 (.reg .bx)).toInt ≠ 0 ∧
    ((w 0 0x7FFF).r16 .dx ++ (w 0 0x7FFF).r16 .ax).toInt.natAbs /
      ((w 0 0x7FFF).readRm16 (.reg .bx)).toInt.natAbs = 32767 ∧
    ((w 0xFFFF 0x8001).r16 .dx ++ (w 0xFFFF 0x8001).r16 .ax).toInt.natAbs /
      ((w 0xFFFF 0x8001).readRm16 (.reg .bx)).toInt.natAbs = 32767 := by decide

/-- No override, and an override. -/
theorem witness_EffectiveAddress : base.segOverride = none ∧ ({ base with segOverride := some .es } : State).segOverride = some .es :=
  ⟨rfl, rfl⟩

/-- The last byte of the first area and the first of the second; the gap is in no area. -/
theorem witness_FirstAreaDecides :
    base.areas = [] ++ ⟨0x00000, 0x9FFFF, true, true⟩ :: base.areas.tail ∧
    base.areas = [⟨0x00000, 0x9FFFF, true, true⟩] ++ ⟨0xA0000, 0xBFFFF, true, true⟩ :: base.areas.tail.tail ∧
    (0x9FFFF : Addr).toNat ≤ 0x9FFFF ∧ ¬ ((0xA0000 : Addr).toNat ≤ 0x9FFFF) ∧ 0xA0000 ≤ (0xA0000 : Addr).toNat ∧
    (∀ b ∈ base.areas, ¬ (b.start ≤ (0xF5FFF : Addr).toNat ∧ (0xF5FFF : Addr).toNat ≤ b.stop)) ∧
    Memory.wf base.mem = true := by decide

theorem witness_WrittenByteReadsBack : Memory.wf base.mem = true ∧ isReadable base.areas 0x9FFFF = true ∧
    isWritable base.areas 0x9FFFF = true ∧
    ∀ w ∈ [((0x9FFFE : Addr), (1 : Byte)), (0xA0000, 2)], w.1 ≠ 0x9FFFF :=
  ⟨by decide, by decide, by decide, by simp⟩

theorem witness_AluEncodings : (Rm.mem (R := Reg8) (.disp16 .bp 0)).wf = true ∧ (Rm.reg Reg16.di).wf = true := by decide

/-- Both widths; an addition and a subtraction that leave the signed range by one. -/
theorem witness_OverflowAndHalfCarryMeaning : 8 ∈ [8, 16] ∧ 16 ∈ [8, 16] ∧
    ((addFlags 0x7F#8 0x00#8 true noFlags).2.OF, (subFlags 0x80#8 0x00#8 true noFlags).2.OF,
      (addFlags 0x7FFF#16 0x0001#16 false noFlags).2.AF, (subFlags 0x8000#16 0x0001#16 false noFlags).2.AF) =
      (true, true, true, true) := by decide

/-- A stack in RAM, at the top of its segment. -/
theorem witness_RoundTrips :
    let s := { base with regs.sp := 0, sregs.ss := 0x100 }
    Memory.wf s.mem = true ∧ ∀ a ∈ [phys (s.sr .ss) (s.r16 .sp - 2), phys (s.sr .ss) (s.r16 .sp - 2) + 1],
      isReadable s.areas a = true ∧ isWritable s.areas a = true := by
  refine ⟨by decide, ?_⟩
  intro a ha
  simp only [List.mem_cons, List.not_mem_nil, or_false] at ha
  rcases ha with rfl | rfl <;> decide

/-- The table has both rows of each pair. -/
theorem witness_ConditionalJumps : jumps.map Prod.fst = List.range 16 ∧
    (jumps.map fun row => row.2.2 { noFlags with ZF := true }) =
      [false, true, false, true, true, false, true, false, false, true, false, true, false, true, true, false] := by decide

/-- An element with DF = 1, and with an override. -/
theorem witness_StringElements :
    let s := { base with flags.DF := true, segOverride := some .cs }
    Memory.wf s.mem = true ∧ s.repMode = none := by decide

/-- Both modes, CX = 0 and CX = 65535, and a comparison that stops: equal bytes under F2. -/
theorem witness_RepeatLoop :
    (true, Instr.cmpsb) ∈ strings ∧ (false, Instr.movsb) ∈ strings ∧
    (let s := withRep (some .rep) { base with regs.cx := 0 }
     s.repMode = some .rep ∧ (s.r16 .cx).toNat = 0) ∧
    (let s := withRep (some .repne) { base with regs.cx := 0xFFFF }
     s.repMode = some .repne ∧ (s.r16 .cx).toNat ≠ 0) ∧
    ∃ t, exec .cmpsb (withRep (some .repne) { base with regs.cx := 2 }) = .next t ∧ t.flags.ZF = true ∧ t.regs.cx = 1 :=
  ⟨by decide, by decide, by decide, by decide, _, rfl, by decide, by decide⟩

theorem witness_RepeatEnds : (false, Instr.stosw) ∈ strings ∧ (withRep (some .rep) base).repMode ≠ none := by decide

theorem witness_RepStosbFills :
    let s := withRep (some .repne) { base with regs.cx := 0xFFFF, regs.di := 0xFFFF }
    Memory.wf s.mem = true ∧ s.repMode = some .repne ∧ s.flags.DF = false := by decide

theorem witness_ResetValues : base.runState ≠ .faulted ∧
    ({ base with runState := .faulted } : State).runState = .faulted := by decide

/-- An image of the right size at the end of ROM, and one a byte short; and an area whose last two bytes an earlier one
hides and whose first two none does. -/
theorem witness_ImageLoads :
    let s := base.attachArea ⟨0xF5FFE, 0xF6001, true, false⟩
    Memory.wf s.mem = true ∧ s.areas[3]? = some ⟨0xF6000, 0xFFFFF, true, false⟩ ∧ 0xFFFFF < 2 ^ 20 ∧
    0xF6000 + 0x9FFE + ([1, 2] : List Byte).length = 0xFFFFF + 1 ∧
    0xF6000 + 0x9FFE + ([1] : List Byte).length ≠ 0xFFFFF + 1 ∧
    s.areas[4]? = some ⟨0xF5FFE, 0xF6001, true, false⟩ ∧ 0xF5FFE + 0 + ([1, 2, 3, 4] : List Byte).length = 0xF6001 + 1 ∧
    (∃ b ∈ s.areas.take 4, b.start ≤ (0xF6000 : Addr).toNat ∧ (0xF6000 : Addr).toNat ≤ b.stop) ∧
    ¬ ∃ b ∈ s.areas.take 4, b.start ≤ (0xF5FFF : Addr).toNat ∧ (0xF5FFF : Addr).toNat ≤ b.stop := by decide

end Sys2Proof.Tests
end

section
/-! SUPPORT. The control state (TF, IF, DF and the run state) told apart from the rest: `State.withControl` replaces it,
every instruction acts on it by a map of its own (`ControlEffect`) and reads no more of it than DF, and a step reads DF
and the run state (spec/10_state.md R31, R33, R38). Settles O16, O17, O11, and with the laws of `Effect` O12 and O13. -/

namespace Sys2Proof.Machine

open Sys2Proof.Stated

/-- The control state: TF, IF, DF and the run state. -/
structure Control where
  tf  : Bool
  fi  : Bool
  df  : Bool
  run : RunState

/-- The control state of a state. -/
def State.control (s : State) : Control := ⟨s.flags.TF, s.flags.IF, s.flags.DF, s.runState⟩

/-- The flags with TF, IF and DF replaced. -/
def Flags.withControl (f : Flags) (c : Control) : Flags := { f with TF := c.tf, IF := c.fi, DF := c.df }

/-- The state with its control state replaced. -/
def State.withControl (s : State) (c : Control) : State :=
  { s with flags := s.flags.withControl c, runState := c.run }

@[simp] theorem State.control_withControl (s : State) (c : Control) : (s.withControl c).control = c := rfl

@[simp] theorem State.withControl_control (s : State) : s.withControl s.control = s := rfl

/-! ### Reads do not see the control state, writes pass it on -/

section
variable (s : State) (c : Control)

@[simp] theorem State.flags_withControl : (s.withControl c).flags = s.flags.withControl c := rfl
@[simp] theorem Flags.CF_withControl (f : Flags) : (f.withControl c).CF = f.CF := rfl
@[simp] theorem State.free_withControl : (s.withControl c).free = s.free := rfl
@[simp] theorem State.registered_withControl (p : Word) : (s.withControl c).registered p = s.registered p := rfl
@[simp] theorem State.readRm8_withControl (rm : Rm Reg8) : (s.withControl c).readRm8 rm = s.readRm8 rm := rfl
@[simp] theorem State.readRm16_withControl (rm : Rm Reg16) : (s.withControl c).readRm16 rm = s.readRm16 rm := rfl

@[simp] theorem State.setFlags_withControl (f : Flags) :
    (s.withControl c).setFlags (f.withControl c) = (s.setFlags f).withControl c := rfl

@[simp] theorem State.drew_withControl (n : Nat) : (s.withControl c).drew n = (s.drew n).withControl c := rfl

@[simp] theorem State.callback_withControl (q : PortRequest) :
    (s.withControl c).callback q = (s.callback q).withControl c := rfl

@[simp] theorem State.writeRm8_withControl (rm : Rm Reg8) (v : Byte) :
    (s.withControl c).writeRm8 rm v = (s.writeRm8 rm v).withControl c := by
  cases rm <;> rfl

@[simp] theorem State.writeRm16_withControl (rm : Rm Reg16) (v : Word) :
    (s.withControl c).writeRm16 rm v = (s.writeRm16 rm v).withControl c := by
  cases rm <;> rfl

theorem State.jumpRelative_withControl (b : Bool) (d : Word) :
    (s.withControl c).jumpRelative b d = (s.jumpRelative b d).withControl c := by
  cases b <;> rfl

theorem State.portRead8_withControl (p : Word) :
    (s.withControl c).portRead8 p = (s.portRead8 p).withControl c := by
  by_cases h : s.registered p = true <;> simp [State.portRead8, h]

theorem State.portWrite8_withControl (p : Word) (v : Byte) :
    (s.withControl c).portWrite8 p v = (s.portWrite8 p v).withControl c := by
  by_cases h : s.registered p = true <;> simp [State.portWrite8, h]

theorem State.portRead16_withControl (p : Word) :
    (s.withControl c).portRead16 p = (s.portRead16 p).withControl c := by
  simp only [State.portRead16, State.portRead8_withControl]

theorem State.portWrite16_withControl (p v : Word) :
    (s.withControl c).portWrite16 p v = (s.portWrite16 p v).withControl c := by
  simp only [State.portWrite16, State.portWrite8_withControl]

theorem State.portWord_withControl (p : Word) : (s.withControl c).portWord p = s.portWord p := by
  simp only [State.portWord, State.portRead8_withControl]
  rfl

theorem State.inWord_withControl (p : Word) :
    ((s.withControl c).portRead16 p).setR16 .ax ((s.withControl c).portWord p) =
      ((s.portRead16 p).setR16 .ax (s.portWord p)).withControl c := by
  rw [State.portRead16_withControl, State.portWord_withControl]
  rfl

/-! ### The shared operations -/

@[simp] theorem Alu.compute_withControl {w : Nat} (k : Alu) (a b : BitVec w) (af : Bool) (f : Flags) :
    k.compute a b af (f.withControl c) = ((k.compute a b af f).1, (k.compute a b af f).2.withControl c) := by
  cases k <;> rfl

@[simp] theorem Shift.flags_withControl {w : Nat} (k : Shift) (n : Nat) (x x' : BitVec w) (b : Bool) (u : Nat → Bool)
    (f : Flags) : k.flags n x x' b u (f.withControl c) = (k.flags n x x' b u f).withControl c := by
  unfold Shift.flags
  split
  · rfl
  · cases k <;> rfl

theorem alu8_withControl (k : Alu) (dst : Rm Reg8) (b : Byte) :
    alu8 k dst b (s.withControl c) = (alu8 k dst b s).withControl c := by
  cases k <;> simp [alu8, Alu.writes]

theorem alu16_withControl (k : Alu) (dst : Rm Reg16) (b : Word) :
    alu16 k dst b (s.withControl c) = (alu16 k dst b s).withControl c := by
  cases k <;> simp [alu16, Alu.writes]

theorem shift8_withControl (k : Shift) (rm : Rm Reg8) (n : Nat) :
    shift8 k rm n (s.withControl c) = (shift8 k rm n s).withControl c := by
  simp [shift8]

theorem shift16_withControl (k : Shift) (rm : Rm Reg16) (n : Nat) :
    shift16 k rm n (s.withControl c) = (shift16 k rm n s).withControl c := by
  simp [shift16]

end

/-- One element of a string operation reads DF (R340) and keeps it, and passes on the rest of the control state. -/
structure PassesControl (element : State → State) : Prop where
  pass : ∀ s tf fi run, element (s.withControl ⟨tf, fi, s.flags.DF, run⟩) =
    (element s).withControl ⟨tf, fi, s.flags.DF, run⟩
  df : ∀ s, (element s).flags.DF = s.flags.DF

theorem repeatLoop_withControl (compares : Bool) (m : RepMode) {element : State → State} (he : PassesControl element)
    (n : Nat) (s : State) (tf fi : Bool) (run : RunState) :
    repeatLoop compares m element n (s.withControl ⟨tf, fi, s.flags.DF, run⟩) =
      (repeatLoop compares m element n s).withControl ⟨tf, fi, s.flags.DF, run⟩ := by
  induction n generalizing s with
  | zero => rfl
  | succ n ih =>
    have hloop := ih (element s).decCx
    rw [show (element s).decCx.flags.DF = s.flags.DF from he.df s] at hloop
    simp only [repeatLoop, he.pass]
    rw [apply_ite (State.withControl · _), ← hloop]
    rfl

theorem stringOp_withControl (compares : Bool) {element : State → State} (he : PassesControl element) (s : State)
    {c : Control} (hc : c.df = s.flags.DF) :
    stringOp compares element (s.withControl c) = (stringOp compares element s).withControl c := by
  obtain ⟨tf, fi, df, run⟩ := c
  obtain rfl : df = s.flags.DF := hc
  unfold stringOp
  cases h : s.repMode with
  | none => simpa [State.withControl, h] using he.pass s tf fi run
  | some m => simpa [State.withControl, h] using repeatLoop_withControl compares m he _ s tf fi run

/-! ### Every instruction -/

/-- The instructions that always write the control state. -/
def setsControl : Instr → Bool
  | .sti | .cli | .std | .cld | .hlt => true
  | _ => false

/-- The instructions that raise on some path: the invalid encodings and the divisions (R381, R382). -/
def mayRaise : Instr → Bool
  | .invalidOp _ | .invalidMrm _ _ _ | .divRm8 _ | .divRm16 _ | .idivRm8 _ | .idivRm16 _ => true
  | _ => false

theorem ne_of_setsControl {i : Instr} (h : setsControl i = false) :
    i ≠ .sti ∧ i ≠ .cli ∧ i ≠ .std ∧ i ≠ .cld ∧ i ≠ .hlt := by
  refine ⟨?_, ?_, ?_, ?_, ?_⟩ <;> (rintro rfl; cases h)

theorem mayRaise_cases {i : Instr} (h : mayRaise i = true) :
    (∃ op, i = .invalidOp op) ∨ (∃ op g rm, i = .invalidMrm op g rm) ∨ (∃ rm, i = .divRm8 rm) ∨
    (∃ rm, i = .divRm16 rm) ∨ (∃ rm, i = .idivRm8 rm) ∨ (∃ rm, i = .idivRm16 rm) := by
  unfold mayRaise at h
  split at h
  · exact .inl ⟨_, rfl⟩
  · exact .inr (.inl ⟨_, _, _, rfl⟩)
  · exact .inr (.inr (.inl ⟨_, rfl⟩))
  · exact .inr (.inr (.inr (.inl ⟨_, rfl⟩)))
  · exact .inr (.inr (.inr (.inr (.inl ⟨_, rfl⟩))))
  · exact .inr (.inr (.inr (.inr (.inr ⟨_, rfl⟩))))
  · cases h

theorem setsControl_of_mayRaise {i : Instr} (h : mayRaise i = true) : setsControl i = false := by
  obtain ⟨_, rfl⟩ | ⟨_, _, _, rfl⟩ | ⟨_, rfl⟩ | ⟨_, rfl⟩ | ⟨_, rfl⟩ | ⟨_, rfl⟩ := mayRaise_cases h <;> rfl

/-- Every other instruction passes the control state on, and reads none of it but DF. -/
theorem exec_withControl {i : Instr} (hi : setsControl i = false) (hr : mayRaise i = false) (s : State) {c : Control}
    (hc : c.df = s.flags.DF) : exec i (s.withControl c) = mapNext (·.withControl c) (exec i s) := by
  cases i with
  | addRm8R8 | addR8Rm8 | addAlIb | addRm8Ib | addRm8IbAlt | orRm8R8 | orR8Rm8 | orAlIb | orRm8Ib
  | orRm8IbAlt | adcRm8R8 | adcR8Rm8 | adcAlIb | adcRm8Ib | adcRm8IbAlt | sbbRm8R8 | sbbR8Rm8 | sbbAlIb
  | sbbRm8Ib | sbbRm8IbAlt | andRm8R8 | andR8Rm8 | andAlIb | andRm8Ib | andRm8IbAlt | subRm8R8 | subR8Rm8
  | subAlIb | subRm8Ib | subRm8IbAlt | xorRm8R8 | xorR8Rm8 | xorAlIb | xorRm8Ib | xorRm8IbAlt | cmpRm8R8
  | cmpR8Rm8 | cmpAlIb | cmpRm8Ib | cmpRm8IbAlt =>
    exact congrArg Host.Outcome.next (alu8_withControl s c _ _ _)
  | addRm16R16 | addR16Rm16 | addAxIw | addRm16Iw | addRm16Ib | orRm16R16 | orR16Rm16 | orAxIw | orRm16Iw
  | orRm16Ib | adcRm16R16 | adcR16Rm16 | adcAxIw | adcRm16Iw | adcRm16Ib | sbbRm16R16 | sbbR16Rm16
  | sbbAxIw | sbbRm16Iw | sbbRm16Ib | andRm16R16 | andR16Rm16 | andAxIw | andRm16Iw | andRm16Ib
  | subRm16R16 | subR16Rm16 | subAxIw | subRm16Iw | subRm16Ib | xorRm16R16 | xorR16Rm16 | xorAxIw
  | xorRm16Iw | xorRm16Ib | cmpRm16R16 | cmpR16Rm16 | cmpAxIw | cmpRm16Iw | cmpRm16Ib =>
    exact congrArg Host.Outcome.next (alu16_withControl s c _ _ _)
  | incR16 | decR16 | mulRm8 | mulRm16 | imulRm8 | imulRm16 | testRm8R8 | testRm16R16 | testAlIb | testAxIw
  | testRm8Ib | testRm16Iw | movR8Rm8 | movR16Rm16 | movSregRm16 | movAlMoffs | movAxMoffs | movMoffsAl
  | movMoffsAx | movR8Ib | movR16Iw | xchgAxR16 | leaR16M | lesR16M | ldsR16M | pushR16 | pushRm16 | pushEs
  | pushCs | pushSs | pushDs | popR16 | popEs | popSs | popDs | jmpFar | jmpRm16 | jmpM1616 | callNear
  | callFar | callRm16 | callM1616 | ret | retIw | retf | retfIw | clc | stc | cmc | prefixEs | prefixCs
  | prefixSs | prefixDs | prefixRepne | prefixRep =>
    rfl
  | incRm8 | incRm16 | decRm8 | decRm16 | negRm8 | negRm16 | notRm8 | notRm16 | movRm8R8 | movRm16R16
  | movRm16Sreg | movRm8Ib | movRm16Iw | xchgRm8R8 | xchgRm16R16 | popRm16 =>
    cases ‹Rm _› <;> rfl
  | divRm8 | divRm16 | idivRm8 | idivRm16 | invalidOp | invalidMrm => cases hr
  | cli | sti | cld | std | hlt => cases hi
  | rolRm8One | rolRm8Cl | rorRm8One | rorRm8Cl | rclRm8One | rclRm8Cl | rcrRm8One | rcrRm8Cl | shlRm8One
  | shlRm8Cl | shrRm8One | shrRm8Cl | sarRm8One | sarRm8Cl =>
    exact congrArg Host.Outcome.next (shift8_withControl s c _ _ _)
  | rolRm16One | rolRm16Cl | rorRm16One | rorRm16Cl | rclRm16One | rclRm16Cl | rcrRm16One | rcrRm16Cl
  | shlRm16One | shlRm16Cl | shrRm16One | shrRm16Cl | sarRm16One | sarRm16Cl =>
    exact congrArg Host.Outcome.next (shift16_withControl s c _ _ _)
  | jo | jno | jb | jnb | je | jne | jbe | jnbe | js | jns | jp | jnp | jl | jnl | jle | jnle | jmpShort
  | jmpNear | jcxz =>
    exact congrArg Host.Outcome.next (s.jumpRelative_withControl c _ _)
  | loopne | loope | loop =>
    exact congrArg Host.Outcome.next (s.decCx.jumpRelative_withControl c _ _)
  | movsb | movsw | cmpsb | cmpsw | stosb | stosw | lodsb | lodsw | scasb | scasw =>
    refine congrArg Host.Outcome.next (stringOp_withControl _ ⟨?_, ?_⟩ s hc)
    · exact fun _ _ _ _ => rfl
    · exact fun _ => rfl
  | inAlIb | inAlDx =>
    exact congrArg Host.Outcome.next (congrArg (State.setR8 · _ _) (s.portRead8_withControl c _))
  | inAxIb | inAxDx =>
    exact congrArg Host.Outcome.next (s.inWord_withControl c _)
  | outIbAl | outDxAl =>
    exact congrArg Host.Outcome.next (s.portWrite8_withControl c _ _)
  | outIbAx | outDxAx =>
    exact congrArg Host.Outcome.next (s.portWrite16_withControl c _ _)

/-- What an instruction may do to the control state. -/
inductive ControlEffect : Instr → (Control → Control) → Prop where
  | keeps {i : Instr} (h : setsControl i = false) : ControlEffect i id
  | sti : ControlEffect .sti fun c => { c with fi := true }
  | cli : ControlEffect .cli fun c => { c with fi := false }
  | std : ControlEffect .std fun c => { c with df := true }
  | cld : ControlEffect .cld fun c => { c with df := false }
  | halts : ControlEffect .hlt fun c => { c with run := .halted }
  | raises {i : Instr} (h : mayRaise i = true) : ControlEffect i fun c => { c with run := .faulted }

/-- Whatever the control state but for DF, `f` ends as from `s` itself, with the control state changed by `e`. -/
def ActsBy (e : Control → Control) (f : State → Result) (s : State) : Prop :=
  ∀ c : Control, c.df = s.flags.DF → f (s.withControl c) = mapNext (·.withControl (e c)) (f s)

/-- The control state of `s` is one of those. -/
theorem ActsBy.next {e : Control → Control} {f : State → Result} {s t : State} (h : ActsBy e f s) (ht : f s = .next t) :
    t.control = e s.control := by
  have hs := h s.control rfl
  rw [State.withControl_control, ht] at hs
  exact congrArg State.control (Host.Outcome.next.inj hs)

/-- A division keeps the control state, or faults. -/
def KeepsOrFaults (f : State → State) (s : State) : Prop :=
  (∀ c, f (s.withControl c) = (f s).withControl c) ∨
    ∀ c, f (s.withControl c) = (f s).withControl { c with run := .faulted }

/-- A division tests twice (`p`, `q`) before it goes on, and neither test reads the control state. -/
theorem keepsOrFaults_of_tests {f : State → State} {p q : Prop} [Decidable p] [Decidable q] {s t : State}
    {g : Control → State} {k : Cause} (hs : f s = if p then s.raise k else if q then s.raise k else t)
    (hc : ∀ c, f (s.withControl c) =
      if p then (s.withControl c).raise k else if q then (s.withControl c).raise k else g c)
    (hg : ∀ c, g c = t.withControl c) : KeepsOrFaults f s := by
  simp only [KeepsOrFaults, hs, hc]
  by_cases hp : p
  · simp only [if_pos hp]
    exact .inr fun _ => rfl
  · by_cases hq : q
    · simp only [if_neg hp, if_pos hq]
      exact .inr fun _ => rfl
    · simp only [if_neg hp, if_neg hq]
      exact .inl hg

theorem div8_keepsOrFaults (d : Byte) (s : State) : KeepsOrFaults (div8 d) s :=
  keepsOrFaults_of_tests (by unfold div8; rfl) (fun _ => rfl) fun _ => rfl

theorem div16_keepsOrFaults (d : Word) (s : State) : KeepsOrFaults (div16 d) s :=
  keepsOrFaults_of_tests (by unfold div16; rfl) (fun _ => rfl) fun _ => rfl

theorem idiv8_keepsOrFaults (d : Byte) (s : State) : KeepsOrFaults (idiv8 d) s :=
  keepsOrFaults_of_tests (by unfold idiv8; rfl) (fun _ => rfl) fun _ => rfl

theorem idiv16_keepsOrFaults (d : Word) (s : State) : KeepsOrFaults (idiv16 d) s :=
  keepsOrFaults_of_tests (by unfold idiv16; rfl) (fun _ => rfl) fun _ => rfl

theorem KeepsOrFaults.exec_control {i : Instr} {f : State → State} {s : State} (h : KeepsOrFaults f s)
    (hr : mayRaise i = true) (hx : ∀ c, exec i (s.withControl c) = .next (f (s.withControl c))) :
    ∃ e, ControlEffect i e ∧ ActsBy e (exec i) s := by
  have hs : exec i s = .next (f s) := hx s.control
  obtain h | h := h
  · exact ⟨id, .keeps (setsControl_of_mayRaise hr), fun c _ => by rw [hx, h, hs]; rfl⟩
  · exact ⟨_, .raises hr, fun c _ => by rw [hx, h, hs]; rfl⟩

/-- What every instruction does to the control state, of which it reads DF alone. -/
theorem exec_control (i : Instr) (s : State) : ∃ e, ControlEffect i e ∧ ActsBy e (exec i) s := by
  by_cases hi : setsControl i = false
  · by_cases hr : mayRaise i = false
    · exact ⟨id, .keeps hi, fun c hc => exec_withControl hi hr s hc⟩
    · rw [Bool.not_eq_false] at hr
      obtain ⟨_, rfl⟩ | ⟨_, _, _, rfl⟩ | ⟨rm, rfl⟩ | ⟨rm, rfl⟩ | ⟨rm, rfl⟩ | ⟨rm, rfl⟩ := mayRaise_cases hr
      · exact ⟨_, .raises hr, fun _ _ => rfl⟩
      · exact ⟨_, .raises hr, fun _ _ => rfl⟩
      · exact (div8_keepsOrFaults (s.readRm8 rm) s).exec_control hr (fun _ => rfl)
      · exact (div16_keepsOrFaults (s.readRm16 rm) s).exec_control hr (fun _ => rfl)
      · exact (idiv8_keepsOrFaults (s.readRm8 rm) s).exec_control hr (fun _ => rfl)
      · exact (idiv16_keepsOrFaults (s.readRm16 rm) s).exec_control hr (fun _ => rfl)
  · unfold setsControl at hi
    split at hi
    · exact ⟨_, .sti, fun _ _ => rfl⟩
    · exact ⟨_, .cli, fun _ _ => rfl⟩
    · exact ⟨_, .std, fun _ _ => rfl⟩
    · exact ⟨_, .cld, fun _ _ => rfl⟩
    · exact ⟨_, .halts, fun _ _ => rfl⟩
    · exact absurd rfl hi

/-- The run state after an instruction: kept, halted by HLT, or faulted. -/
theorem ControlEffect.run {i : Instr} {e : Control → Control} (h : ControlEffect i e) (c : Control) :
    ((e c).run = c.run ∧ i ≠ .hlt) ∨ ((e c).run = .halted ∧ i = .hlt) ∨
      ((e c).run = .faulted ∧ mayRaise i = true ∧ i ≠ .hlt) := by
  cases h with
  | keeps hi =>
    obtain ⟨-, -, -, -, hhlt⟩ := ne_of_setsControl hi
    exact .inl ⟨rfl, hhlt⟩
  | halts => exact .inr (.inl ⟨rfl, rfl⟩)
  | raises hr =>
    obtain ⟨-, -, -, -, hhlt⟩ := ne_of_setsControl (setsControl_of_mayRaise hr)
    exact .inr (.inr ⟨rfl, hr, hhlt⟩)
  | _ => exact .inl ⟨rfl, by simp⟩

/-! ### A step -/

/-- TF is passed on, and IF has no part in what becomes of the rest. -/
structure Separates (e : Control → Control) : Prop where
  tf : ∀ c b, e { c with tf := b } = { e c with tf := b }
  fi : ∀ c b, ∃ b', e { c with fi := b } = { e c with fi := b' }

theorem separates_id : Separates id := ⟨fun _ _ => rfl, fun _ b => ⟨b, rfl⟩⟩

theorem ControlEffect.separates {i : Instr} {e : Control → Control} (h : ControlEffect i e) : Separates e := by
  cases h <;> exact ⟨fun _ _ => rfl, fun _ _ => ⟨_, rfl⟩⟩

theorem ControlEffect.eq_id_of_isPrefix {i : Instr} {e : Control → Control} (h : ControlEffect i e)
    (hp : isPrefix i = true) : e = id := by
  cases h with
  | keeps => rfl
  | raises hr =>
    obtain ⟨_, rfl⟩ | ⟨_, _, _, rfl⟩ | ⟨_, rfl⟩ | ⟨_, rfl⟩ | ⟨_, rfl⟩ | ⟨_, rfl⟩ := mayRaise_cases hr <;> cases hp
  | _ => cases hp

/-- The end of a step, on the control state. -/
def Control.finish (c : Control) : Control := { c with run := c.run.afterStep }

theorem State.finish_withControl (s : State) (c : Control) : (s.withControl c).finish = s.finish.withControl c.finish := rfl

theorem Separates.finish {e : Control → Control} (h : Separates e) : Separates fun c => (e c).finish where
  tf c b := by rw [h.tf]; rfl
  fi c b := by
    obtain ⟨b', hb⟩ := h.fi c b
    exact ⟨b', by rw [hb]; rfl⟩

/-- The fetch loop: the window and the prefixes are the same whatever the control state. -/
theorem runItems_control (fuel : Nat) (s : State) : ∃ e, Separates e ∧ ActsBy e (runItems fuel) s := by
  induction fuel generalizing s with
  | zero => exact ⟨id, separates_id, fun _ _ => rfl⟩
  | succ fuel ih =>
    obtain ⟨i, rest, hd⟩ := decode_fetchWindow s
    obtain ⟨t, hx, -, hrun⟩ := runItems_succ fuel s hd
    obtain ⟨e, he, hact⟩ := exec_control i (s.advanceIp (fetchLength - rest.length))
    have hturn (c : Control) (hc : c.df = s.flags.DF) : runItems (fuel + 1) (s.withControl c) =
        if isPrefix i then runItems fuel (t.withControl (e c)) else .next (t.withControl (e c)) := by
      obtain ⟨t', hx', -, h⟩ := runItems_succ fuel (s.withControl c) (i := i) (rest := rest) hd
      have htt := hx'.symm.trans (hact c hc)
      rw [hx] at htt
      rw [h, Host.Outcome.next.inj htt]
    by_cases hp : isPrefix i = true
    · obtain ⟨e', he', hact'⟩ := ih t
      obtain rfl := he.eq_id_of_isPrefix hp
      have hdf : t.flags.DF = s.flags.DF := congrArg Control.df (hact.next hx)
      refine ⟨e', he', fun c hc => ?_⟩
      rw [hturn c hc, hrun, if_pos hp, if_pos hp]
      exact hact' c (hc.trans hdf.symm)
    · refine ⟨e, he.separates, fun c hc => ?_⟩
      rw [hturn c hc, hrun, if_neg hp, if_neg hp]
      rfl

theorem runStep_control (s : State) : ∃ e, Separates e ∧ ActsBy e runStep s := by
  obtain ⟨e, he, hact⟩ := runItems_control 65536 s.begin
  refine ⟨fun c => (e c).finish, he.finish, fun c hc => ?_⟩
  have hrun : runItems 65536 (s.withControl c).begin = mapNext (·.withControl (e c)) (runItems 65536 s.begin) :=
    hact c hc
  unfold runStep
  rw [hrun]
  cases runItems 65536 s.begin with
  | next t => exact congrArg Host.Outcome.next (t.finish_withControl (e c))
  | fault => rfl
  | refused => rfl

theorem step_of_not_runnable {s : State} (h : s.runnable = false) : step s = .next s := by
  unfold step cycle
  split <;> simp_all [State.runnable]

/-- A step reads DF and the run state, and no more of the control state. -/
theorem step_control (s : State) : ∃ e, Separates e ∧ ∀ c : Control, c.df = s.flags.DF → c.run = s.runState →
    step (s.withControl c) = mapNext (·.withControl (e c)) (step s) := by
  have hrunnable (c : Control) (hc : c.run = s.runState) : (s.withControl c).runnable = s.runnable := by
    simp only [State.runnable, State.withControl, hc]
  cases h : s.runnable with
  | true =>
    obtain ⟨e, he, hact⟩ := runStep_control s
    refine ⟨e, he, fun c hdf hc => ?_⟩
    rw [step_of_runnable h, step_of_runnable ((hrunnable c hc).trans h)]
    exact hact c hdf
  | false =>
    refine ⟨id, separates_id, fun c _ hc => ?_⟩
    rw [step_of_not_runnable h, step_of_not_runnable ((hrunnable c hc).trans h)]
    rfl

/-- Settles O16: a step changes the control state by a map that passes TF on and keeps IF apart. -/
theorem trapAndInterruptFlagsHaveNoEffect : Obligations.TrapAndInterruptFlagsHaveNoEffect := by
  unfold Obligations.TrapAndInterruptFlagsHaveNoEffect
  intro s b
  obtain ⟨e, he, hstep⟩ := step_control s
  have hs := hstep s.control rfl rfl
  have hT := hstep { s.control with tf := b } rfl rfl
  have hI := hstep { s.control with fi := b } rfl rfl
  obtain ⟨b', hb'⟩ := he.fi s.control b
  rw [he.tf] at hT
  rw [hb'] at hI
  rw [State.withControl_control] at hs
  refine ⟨hT.trans ?_, b', hI.trans ?_⟩
  all_goals
    cases h : step s with
    | next t =>
      rw [h] at hs
      have ht : t.control = e s.control := congrArg State.control (Host.Outcome.next.inj hs)
      rw [← ht]
      rfl
    | fault => rfl
    | refused => rfl

/-- Settles O17: of all effects on the control state, four write IF or DF, and none writes TF. -/
theorem controlFlagWriters : Obligations.ControlFlagWriters := by
  unfold Obligations.ControlFlagWriters
  intro i s t h
  obtain ⟨e, he, hact⟩ := exec_control i s
  have ht := hact.next h
  have hTF : t.flags.TF = (e s.control).tf := congrArg Control.tf ht
  have hIF : t.flags.IF = (e s.control).fi := congrArg Control.fi ht
  have hDF : t.flags.DF = (e s.control).df := congrArg Control.df ht
  rw [hTF, hIF, hDF]
  cases he with
  | keeps hi =>
    obtain ⟨hsti, hcli, hstd, hcld, -⟩ := ne_of_setsControl hi
    simp [hsti, hcli, hstd, hcld, State.control]
  | raises hr =>
    obtain ⟨hsti, hcli, hstd, hcld, -⟩ := ne_of_setsControl (setsControl_of_mayRaise hr)
    simp [hsti, hcli, hstd, hcld, State.control]
  | _ => simp [State.control]

/-! ### The invariant -/

theorem Effect.wf {i : Instr} {s t : State} (h : Effect i s t) (hw : Memory.wf s.mem = true) :
    Memory.wf t.mem = true := by
  obtain hreach | ⟨c, rfl⟩ | ⟨-, rfl⟩ := h
  · exact hreach.wf hw
  · exact hw
  · exact hw

/-- The fault record changes with the run state only. -/
theorem Effect.fault {i : Instr} {s t : State} (h : Effect i s t) :
    (t.runState = .faulted ∧ t.fault ≠ none) ∨ (t.runState = s.runState ∧ t.fault = s.fault) ∨
      (t.runState = .halted ∧ t.fault = s.fault) := by
  obtain hreach | ⟨c, rfl⟩ | ⟨-, rfl⟩ := h
  · exact .inr (.inl hreach.run)
  · exact .inl ⟨rfl, by simp⟩
  · exact .inr (.inr ⟨rfl, rfl⟩)

@[simp] theorem RunState.afterStep_eq_faulted (r : RunState) : r.afterStep = .faulted ↔ r = .faulted := by
  cases r <;> simp [RunState.afterStep]

theorem RunState.afterStep_ne_reset (r : RunState) : r.afterStep ≠ .reset := by
  cases r <;> simp [RunState.afterStep]

theorem State.runState_of_runnable {s : State} (h : s.runnable = true) : s.runState ≠ .halted ∧ s.runState ≠ .faulted := by
  constructor <;> (intro hr; simp [State.runnable, hr] at h)

/-- Settles O12: a step that runs keeps what `Reach` and `Effect` keep, and empties the latches at its end. -/
theorem stepKeepsInvariant : Obligations.StepKeepsInvariant := by
  unfold Obligations.StepKeepsInvariant
  rintro s t ⟨hmem, hseg, hrep, hip0, hfault⟩ hstep
  obtain ⟨-, rfl⟩ | ⟨hrun, u, i, v, hu, -, -, hv, rfl⟩ := step_next hstep
  · exact ⟨hmem, hseg, hrep, hip0, hfault⟩
  · have hs : s.runState ≠ .faulted := (State.runState_of_runnable hrun).2
    have hnone : s.fault = none := not_not.mp (mt hfault.mpr hs)
    obtain ⟨hurun, hufault⟩ : u.runState = s.runState ∧ u.fault = s.fault := hu.run
    refine ⟨hv.wf (hu.wf hmem), rfl, rfl, rfl, ?_⟩
    change v.runState.afterStep = .faulted ↔ v.fault ≠ none
    rw [RunState.afterStep_eq_faulted]
    obtain ⟨hr, hf⟩ | ⟨hr, hf⟩ | ⟨hr, hf⟩ := hv.fault
    · simp [hr, hf]
    · simp [hr, hf, hurun, hufault, hs, hnone]
    · simp [hr, hf, hufault, hnone]

/-- Settles O11: the run state by the effect on the control state, the fault record by `Effect`. -/
theorem runStateTransitions : Obligations.RunStateTransitions := by
  unfold Obligations.RunStateTransitions
  constructor
  · intro i s t hrunnable h
    obtain ⟨hnh, hnf⟩ := State.runState_of_runnable hrunnable
    obtain ⟨e, he, hact⟩ := exec_control i s
    have hrun : t.runState = (e s.control).run := congrArg Control.run (hact.next h)
    have hfault : t.runState = .faulted ∨ t.fault = s.fault := by
      obtain ⟨t', ht', heff⟩ := exec_effect i s
      obtain rfl := Host.Outcome.next.inj (h.symm.trans ht')
      obtain ⟨hr, -⟩ | ⟨-, hf⟩ | ⟨-, hf⟩ := heff.fault
      · exact .inl hr
      · exact .inr hf
      · exact .inr hf
    obtain ⟨hc, hi⟩ | ⟨hc, hi⟩ | ⟨hc, hr, hi⟩ := he.run s.control
    · have ht : t.runState = s.runState := hrun.trans hc
      exact ⟨by simp [ht, hnh, hi], fun hf => absurd (ht ▸ hf) hnf, fun _ _ => ht, hfault⟩
    · have ht : t.runState = .halted := hrun.trans hc
      exact ⟨by simp [ht, hi], by simp [ht], fun hn => absurd ht hn, hfault⟩
    · have ht : t.runState = .faulted := hrun.trans hc
      exact ⟨by simp [ht, hi], fun _ => mayRaise_cases hr, fun _ hn => absurd ht hn, hfault⟩
  · intro s t h
    obtain ⟨hrun, rfl⟩ | ⟨-, u, i, v, -, -, -, -, rfl⟩ := step_next h
    · intro hr
      simp [State.runnable, hr] at hrun
    · exact RunState.afterStep_ne_reset _

/-- Settles O13: `reset()` empties the latches, and acts on no faulted machine. -/
theorem resetHasInvariant : Obligations.ResetHasInvariant := by
  unfold Obligations.ResetHasInvariant
  refine ⟨⟨reset_wf, rfl, rfl, rfl, by simp [State.reset]⟩, ?_⟩
  intro s hs
  unfold State.resetAgain
  split
  · exact hs
  · rename_i hrun
    obtain ⟨hmem, -, -, -, hfault⟩ := hs
    have hnone : s.fault = none := not_not.mp (mt hfault.mpr hrun)
    exact ⟨hmem, rfl, rfl, rfl, by simp [hnone]⟩

end Sys2Proof.Machine
end

section
/-! SUPPORT. The register views, the FLAGS word, what OF and AF mean, and INC and DEC (spec/10_state.md R21, R22, R29,
R31, R42, R43, R45). Settles O21, O27, O31 and O32. -/

namespace Sys2Proof.Machine

open Sys2Proof.Stated

/-! ### The register file -/

theorem State.regsKeptBut_setR16 (s : State) (r : Reg16) (v : Word) : RegsKeptBut [r] s (s.setR16 r v) := by
  intro q hq
  exact (State.r16_setR16 ..).trans (if_neg (List.mem_singleton.not.mp hq))

theorem State.regsKeptBut_setR8 (s : State) (r : Reg8) (v : Byte) : RegsKeptBut [Reg8.home r] s (s.setR8 r v) := by
  intro q hq
  exact (State.r16_setR8 ..).trans (if_neg (List.mem_singleton.not.mp hq))

theorem State.r8_toNat (s : State) (r : Reg8) : (s.r8 r).toNat =
    if Reg8.isHigh r then (s.r16 (Reg8.home r)).toNat / 256 else (s.r16 (Reg8.home r)).toNat % 256 := by
  rw [← highByte_toNat, ← lowByte_toNat, ← apply_ite BitVec.toNat]
  rfl

theorem State.r16_setR8_toNat (s : State) (r : Reg8) (v : Byte) : ((s.setR8 r v).r16 (Reg8.home r)).toNat =
    if Reg8.isHigh r then v.toNat * 256 + (s.r16 (Reg8.home r)).toNat % 256
    else (s.r16 (Reg8.home r)).toNat / 256 * 256 + v.toNat := by
  rw [State.r16_setR8, if_pos rfl, apply_ite BitVec.toNat, wordOf_toNat, wordOf_toNat, lowByte_toNat, highByte_toNat]

/-- Settles O21: each half is its byte of the home register, and is written there. -/
theorem aliasingLaw : Obligations.AliasingLaw := by
  unfold Obligations.AliasingLaw
  intro s
  have half (r : Reg8) (v : Byte) := And.intro (s.r16_setR8_toNat r v) (s.regsKeptBut_setR8 r v)
  refine ⟨?_, ?_, fun r v => ⟨by simp, s.regsKeptBut_setR16 r v⟩⟩
  all_goals
    simp only [List.forall_mem_cons, List.not_mem_nil, false_implies, implies_true, and_true]
    exact ⟨⟨s.r8_toNat _, half _⟩, ⟨s.r8_toNat _, half _⟩, ⟨s.r8_toNat _, half _⟩, ⟨s.r8_toNat _, half _⟩⟩

/-! ### FLAGS -/

theorem getLsbD_bitAt {n : Nat} (hn : n < 16) (b : Bool) (k : Nat) : (bitAt n b).getLsbD k = (b && decide (n = k)) := by
  cases b with
  | false => simp [bitAt]
  | true =>
    rw [Bool.true_and, bitAt, if_pos rfl, BitVec.getLsbD_ofNat, Nat.testBit_two_pow]
    by_cases h : n = k
    · simp [← h, hn]
    · simp [h]

theorem Flags.getLsbD_toWord (f : Flags) (k : Nat) : f.toWord.getLsbD k =
    (f.OF && decide (11 = k) || f.DF && decide (10 = k) || f.IF && decide (9 = k) || f.TF && decide (8 = k) ||
      f.SF && decide (7 = k) || f.ZF && decide (6 = k) || f.AF && decide (4 = k) || f.PF && decide (2 = k) ||
      f.CF && decide (0 = k)) := by
  simp only [Flags.toWord, BitVec.getLsbD_or]
  simp [getLsbD_bitAt]

/-- Settles O27: a bit of the word is the flag at that place, if any. -/
theorem flagsWord : Obligations.FlagsWord := by
  unfold Obligations.FlagsWord
  intro f
  refine ⟨?_, ?_, ?_⟩
  · simp [Flags.getLsbD_toWord]
  · simp [Flags.getLsbD_toWord]
  · simp only [Flags.ofWord, Flags.getLsbD_toWord]
    simp

/-! ### OF and AF of an addition and a subtraction -/

theorem addFlags_OF_eq {w : Nat} (a b : BitVec w) (c : Bool) (f : Flags) : (addFlags a b c f).2.OF =
    ((a.msb ^^ (addFlags a b c f).1.msb) && (b.msb ^^ (addFlags a b c f).1.msb)) := by
  simp [addFlags]

theorem addFlags_AF_eq {w : Nat} (a b : BitVec w) (c : Bool) (f : Flags) : (addFlags a b c f).2.AF =
    (a.getLsbD 4 ^^ b.getLsbD 4 ^^ (addFlags a b c f).1.getLsbD 4) := by
  simp [addFlags]

theorem subFlags_OF_eq {w : Nat} (a b : BitVec w) (c : Bool) (f : Flags) : (subFlags a b c f).2.OF =
    ((a.msb ^^ b.msb) && (a.msb ^^ (subFlags a b c f).1.msb)) := by
  simp [subFlags]

theorem subFlags_AF_eq {w : Nat} (a b : BitVec w) (c : Bool) (f : Flags) : (subFlags a b c f).2.AF =
    (a.getLsbD 4 ^^ b.getLsbD 4 ^^ (subFlags a b c f).1.getLsbD 4) := by
  simp [subFlags]

theorem addFlags_eq_add {w : Nat} (a b : BitVec w) (c : Bool) (f : Flags) :
    (addFlags a b c f).1 = a + b + (BitVec.ofBool c).setWidth w := by
  apply BitVec.eq_of_toNat_eq
  rw [addFlags_result]
  cases c <;> simp [Nat.add_mod]

/-- A subtraction adds the complement, with the carry in complemented. -/
theorem subFlags_eq_addFlags_not {w : Nat} (a b : BitVec w) (c : Bool) (f : Flags) :
    (subFlags a b c f).1 = (addFlags a (~~~b) (!c) f).1 := by
  apply BitVec.eq_of_toNat_eq
  have hb := b.isLt
  zify
  rw [subFlags_result, addFlags_result, BitVec.toNat_not]
  push_cast [show b.toNat ≤ 2 ^ w - 1 by omega, Nat.one_le_two_pow]
  rw [← Int.add_emod_right]
  congr 1
  cases c <;> simp <;> ring

theorem addFlags_AF {w : Nat} (a b : BitVec w) (c : Bool) (f : Flags) (hw : 4 < w) :
    (addFlags a b c f).2.AF = decide (16 ≤ a.toNat % 16 + b.toNat % 16 + c.toNat) := by
  have hcarry : BitVec.carry 4 a b c = decide (16 ≤ a.toNat % 16 + b.toNat % 16 + c.toNat) := rfl
  rw [addFlags_AF_eq, addFlags_eq_add, BitVec.getLsbD_add_add_bool hw, ← hcarry]
  cases a.getLsbD 4 <;> cases b.getLsbD 4 <;> simp

theorem subFlags_AF {w : Nat} (a b : BitVec w) (c : Bool) (f : Flags) (hw : 4 < w) :
    (subFlags a b c f).2.AF = decide (a.toNat % 16 < b.toNat % 16 + c.toNat) := by
  have hnot : (~~~b).toNat % 16 = 15 - b.toNat % 16 := by
    have hb := b.isLt
    obtain ⟨v, rfl⟩ : ∃ v, w = v + 4 := ⟨w - 4, by omega⟩
    rw [BitVec.toNat_not]
    rw [pow_add] at *
    omega
  have hcomplement : (subFlags a b c f).2.AF = !(addFlags a (~~~b) (!c) f).2.AF := by
    rw [subFlags_AF_eq, addFlags_AF_eq, subFlags_eq_addFlags_not, BitVec.getLsbD_not, decide_eq_true hw]
    simp
  rw [hcomplement, addFlags_AF _ _ _ _ hw, hnot, ← decide_not, decide_eq_decide]
  cases c <;> simp <;> omega

/-- The sum of two numbers and a carry wraps at most once. -/
theorem addFlags_wraps {w : Nat} (a b : BitVec w) (c : Bool) (f : Flags) :
    (addFlags a b c f).1.toNat = a.toNat + b.toNat + c.toNat ∨
      (addFlags a b c f).1.toNat + 2 ^ w = a.toNat + b.toNat + c.toNat := by
  have ha := a.isLt
  have hb := b.isLt
  have hc := c.toNat_le
  rw [addFlags_result]
  rcases Nat.lt_or_ge (a.toNat + b.toNat + c.toNat) (2 ^ w) with hlt | hge
  · exact .inl (Nat.mod_eq_of_lt hlt)
  · rw [Nat.mod_eq_sub_mod hge, Nat.mod_eq_of_lt (by omega)]
    exact .inr (by omega)

/-- With every sign bit told as `2 ^ (w - 1) ≤ n`, the claim is linear in the three numbers. -/
theorem addFlags_OF {w : Nat} (a b : BitVec w) (c : Bool) (f : Flags) (hw : 0 < w) :
    (addFlags a b c f).2.OF = decide (¬ (-(2 ^ (w - 1) : Int) ≤ a.toInt + b.toInt + c.toNat ∧
      a.toInt + b.toInt + c.toNat < 2 ^ (w - 1))) := by
  obtain ⟨v, rfl⟩ : ∃ v, w = v + 1 := ⟨w - 1, by omega⟩
  have ha := a.isLt
  have hb := b.isLt
  have hr := (addFlags a b c f).1.isLt
  have hc := c.toNat_le
  have hwrap := addFlags_wraps a b c f
  have hcast : ((2 ^ v : Nat) : Int) = 2 ^ v := by push_cast; rfl
  rw [addFlags_OF_eq, Bool.eq_iff_iff]
  simp only [BitVec.msb_eq_decide, BitVec.toInt_eq_toNat_cond, Nat.add_sub_cancel, Bool.and_eq_true,
    Bool.xor_iff_ne, ne_eq, decide_eq_decide, decide_eq_true_eq]
  split <;> split <;> omega

theorem toInt_not_eq {w : Nat} (hw : 0 < w) (x : BitVec w) : (~~~x).toInt = -x.toInt - 1 := by
  have hx := x.isLt
  rw [BitVec.toInt_eq_msb_cond, BitVec.toInt_eq_msb_cond, BitVec.msb_not, decide_eq_true hw, BitVec.toNat_not]
  push_cast [show x.toNat ≤ 2 ^ w - 1 by omega, Nat.one_le_two_pow]
  cases x.msb <;> simp <;> ring

theorem subFlags_OF {w : Nat} (a b : BitVec w) (c : Bool) (f : Flags) (hw : 0 < w) :
    (subFlags a b c f).2.OF = decide (¬ (-(2 ^ (w - 1) : Int) ≤ a.toInt - b.toInt - c.toNat ∧
      a.toInt - b.toInt - c.toNat < 2 ^ (w - 1))) := by
  have hcomplement : (subFlags a b c f).2.OF = (addFlags a (~~~b) (!c) f).2.OF := by
    rw [subFlags_OF_eq, addFlags_OF_eq, subFlags_eq_addFlags_not, BitVec.msb_not, decide_eq_true hw]
    cases a.msb <;> cases b.msb <;> simp
  have hsum : a.toInt + (~~~b).toInt + (!c).toNat = a.toInt - b.toInt - c.toNat := by
    rw [toInt_not_eq hw]
    cases c <;> simp <;> ring
  rw [hcomplement, addFlags_OF _ _ _ _ hw, hsum]

/-- Settles O31, for every width that holds the sign bit and bit 4. -/
theorem overflowAndHalfCarryMeaning : Obligations.OverflowAndHalfCarryMeaning := by
  unfold Obligations.OverflowAndHalfCarryMeaning
  intro w hmem a b c f
  have hw : 4 < w := by
    simp only [List.mem_cons, List.not_mem_nil, or_false] at hmem
    omega
  exact ⟨addFlags_OF a b c f (by omega), addFlags_AF a b c f hw, subFlags_OF a b c f (by omega), subFlags_AF a b c f hw⟩

/-! ### INC and DEC -/

theorem setSZP_resultFlags {w : Nat} (r : BitVec w) (f : Flags) : ResultFlags r (setSZP r f) := setSZP_arith r f

theorem eq_ofNat_iff {w : Nat} (a : BitVec w) {n : Nat} (hn : n < 2 ^ w) : a = BitVec.ofNat w n ↔ a.toNat = n := by
  rw [← BitVec.toNat_inj, BitVec.toNat_ofNat, Nat.mod_eq_of_lt hn]

theorem setWidth4_eq_iff {w : Nat} (a : BitVec w) (n : BitVec 4) : a.setWidth 4 = n ↔ a.toNat % 16 = n.toNat := by
  rw [← BitVec.toNat_inj, BitVec.toNat_setWidth]

theorem two_pow_pred_lt {w : Nat} (hw : 0 < w) : 2 ^ (w - 1) < 2 ^ w :=
  Nat.pow_lt_pow_right Nat.one_lt_two (Nat.sub_one_lt_of_lt hw)

theorem incFlags_rule {w : Nat} (hw : 0 < w) (a : BitVec w) (f : Flags) :
    IncRule a f (incFlags a f).1 (incFlags a f).2 := by
  have hlt : 2 ^ (w - 1) - 1 < 2 ^ w := (Nat.sub_le _ _).trans_lt (two_pow_pred_lt hw)
  refine ⟨?_, rfl, decide_eq_decide.mpr (eq_ofNat_iff a hlt), decide_eq_decide.mpr (setWidth4_eq_iff a _),
    setSZP_resultFlags _ _, rfl, rfl, rfl⟩
  simp [incFlags, Nat.add_mod]

theorem decFlags_rule {w : Nat} (hw : 0 < w) (a : BitVec w) (f : Flags) :
    DecRule a f (decFlags a f).1 (decFlags a f).2 := by
  refine ⟨?_, rfl, decide_eq_decide.mpr (eq_ofNat_iff a (two_pow_pred_lt hw)),
    decide_eq_decide.mpr (setWidth4_eq_iff a _), setSZP_resultFlags _ _, rfl, rfl, rfl⟩
  have hone : 1 < 2 ^ w := Nat.one_lt_two_pow hw.ne'
  simp only [decFlags]
  push_cast [BitVec.toNat_sub, BitVec.ofNat_eq_ofNat, BitVec.toNat_ofNat, Nat.mod_eq_of_lt hone, hone.le]
  rw [← Int.add_emod_right ((a.toNat : Int) - 1)]
  congr 1
  ring

/-- The frame of a read-modify-write: the flags and the operand, whose address is the one before the flags are set. -/
theorem writes8_setFlags_writeRm8 {s : State} (h : Memory.wf s.mem = true) (f : Flags) (rm : Rm Reg8) (v : Byte) :
    Writes8 s ((s.setFlags f).writeRm8 rm v) rm v := by
  cases rm with
  | reg r =>
    refine ⟨by simp, fun q hq => ?_, fun q hq => ?_, fun _ => rfl⟩
    · exact (State.r8_setR8 ..).trans (if_neg hq)
    · have hhome : q ≠ Reg8.home r := by
        rintro rfl
        cases r <;> simp [Reg8.home] at hq
      exact (State.r16_setR8 ..).trans (if_neg hhome)
  | mem m => exact ⟨fun _ => rfl, fun x => State.byteAt_writeRm8 (s := s.setFlags f) h (.mem m) v x⟩

theorem writes16_setFlags_writeRm16 {s : State} (h : Memory.wf s.mem = true) (f : Flags) (rm : Rm Reg16) (v : Word) :
    Writes16 s ((s.setFlags f).writeRm16 rm v) rm v := by
  cases rm with
  | reg r => exact ⟨by simp, (s.setFlags f).regsKeptBut_setR16 r v, fun _ => rfl⟩
  | mem m => exact ⟨fun _ => rfl, fun x => State.byteAt_writeRm16 (s := s.setFlags f) h (.mem m) v x⟩

theorem ordinaryKept_setFlags_writeRm8 (s : State) (f : Flags) (rm : Rm Reg8) (v : Byte) :
    OrdinaryKept s ((s.setFlags f).writeRm8 rm v) := by
  cases rm <;> exact ⟨rfl, fun _ => rfl, rfl, rfl, rfl, rfl, rfl, rfl, rfl, rfl, rfl⟩

theorem ordinaryKept_setFlags_writeRm16 (s : State) (f : Flags) (rm : Rm Reg16) (v : Word) :
    OrdinaryKept s ((s.setFlags f).writeRm16 rm v) := by
  cases rm <;> exact ⟨rfl, fun _ => rfl, rfl, rfl, rfl, rfl, rfl, rfl, rfl, rfl, rfl⟩

/-- An instruction that sets the flags and writes its byte operand, with a result and flags that meet the rule `R`. -/
theorem completes_setFlags_writeRm8 {i : Instr} {s : State} (h : Memory.wf s.mem = true) {rm : Rm Reg8} {v : Byte}
    {f : Flags} (hx : exec i s = .next ((s.setFlags f).writeRm8 rm v)) (R : Byte → Flags → Prop) (hR : R v f) :
    Completes i s fun t => ∃ v, R v t.flags ∧ Writes8 s t rm v ∧ OrdinaryKept s t :=
  ⟨_, hx, v, by simpa using hR, writes8_setFlags_writeRm8 h f rm v, ordinaryKept_setFlags_writeRm8 s f rm v⟩

/-- The same for a word operand. -/
theorem completes_setFlags_writeRm16 {i : Instr} {s : State} (h : Memory.wf s.mem = true) {rm : Rm Reg16} {v : Word}
    {f : Flags} (hx : exec i s = .next ((s.setFlags f).writeRm16 rm v)) (R : Word → Flags → Prop) (hR : R v f) :
    Completes i s fun t => ∃ v, R v t.flags ∧ Writes16 s t rm v ∧ OrdinaryKept s t :=
  ⟨_, hx, v, by simpa using hR, writes16_setFlags_writeRm16 h f rm v, ordinaryKept_setFlags_writeRm16 s f rm v⟩

/-- Settles O32: one read, the flags of R45, one write. -/
theorem incAndDec : Obligations.IncAndDec := by
  unfold Obligations.IncAndDec
  intro s h
  have inc8 (rm : Rm Reg8) := incFlags_rule (by decide) (s.readRm8 rm) s.flags
  have inc16 (rm : Rm Reg16) := incFlags_rule (by decide) (s.readRm16 rm) s.flags
  have dec8 (rm : Rm Reg8) := decFlags_rule (by decide) (s.readRm8 rm) s.flags
  have dec16 (rm : Rm Reg16) := decFlags_rule (by decide) (s.readRm16 rm) s.flags
  refine ⟨fun r => ?_, fun rm => ?_, fun rm => ?_, fun r => ?_, fun rm => ?_, fun rm => ?_⟩
  · exact completes_setFlags_writeRm16 h rfl (IncRule _ _) (inc16 (.reg r))
  · exact completes_setFlags_writeRm8 h rfl (IncRule _ _) (inc8 rm)
  · exact completes_setFlags_writeRm16 h rfl (IncRule _ _) (inc16 rm)
  · exact completes_setFlags_writeRm16 h rfl (DecRule _ _) (dec16 (.reg r))
  · exact completes_setFlags_writeRm8 h rfl (DecRule _ _) (dec8 rm)
  · exact completes_setFlags_writeRm16 h rfl (DecRule _ _) (dec16 rm)

end Sys2Proof.Machine
end

section
/-! SUPPORT. Which bytes a step may change, the first covering area deciding a bus access, bytes and words through the
bus, and what loading an image leaves (spec/20_memory.md R60 to R69, R74, R89, R90). Settles O15, O22, O24, O25, O26
and O60. -/

namespace Sys2Proof.Machine

/-! ### Bytes that are not writable -/

/-- Of the primitive updates only a bus write and a device's writes reach memory, and the map stays as it was. -/
theorem Reach.byteAt_of_not_writable {s t : State} (h : Reach s t) (hw : Memory.wf s.mem = true) {a : Addr}
    (ha : isWritable s.areas a = false) : t.byteAt a = s.byteAt a := by
  induction h with
  | start => rfl
  | regs _ _ ih | sregs _ _ ih | ip _ _ ih | flags _ _ ih | draws _ _ ih | override _ _ ih | rep _ _ ih => exact ih
  | @write u pa v hu ih =>
    obtain ⟨hareas, -, -⟩ := hu.maps
    rw [State.byteAt_busWrite8 (hu.wf hw), if_neg, ih]
    rintro ⟨rfl, hwritable⟩
    simp [hareas, ha] at hwritable
  | @device u q hu ih =>
    obtain ⟨hareas, -, -⟩ := hu.maps
    exact (read_foldWrites (hu.wf hw) u.areas _ (hareas ▸ ha)).trans ih

theorem Effect.byteAt_of_not_writable {i : Instr} {s t : State} (h : Effect i s t) (hw : Memory.wf s.mem = true)
    {a : Addr} (ha : isWritable s.areas a = false) : t.byteAt a = s.byteAt a := by
  obtain hreach | ⟨c, rfl⟩ | ⟨-, rfl⟩ := h
  · exact hreach.byteAt_of_not_writable hw ha
  · rfl
  · rfl

/-- Settles O15: the prefixes and the instruction keep the byte, and the two ends of a step do not touch memory. -/
theorem readOnlyBytesStay : Obligations.ReadOnlyBytesStay := by
  unfold Obligations.ReadOnlyBytesStay
  intro s t a hw hstep ha
  obtain ⟨-, rfl⟩ | ⟨-, u, i, v, hu, -, -, hv, rfl⟩ := step_next hstep
  · rfl
  · obtain ⟨hareas, -, -⟩ := hu.maps
    calc v.finish.byteAt a
      _ = u.byteAt a := hv.byteAt_of_not_writable (hu.wf hw) (hareas ▸ ha)
      _ = s.byteAt a := hu.byteAt_of_not_writable hw ha

/-! ### The first covering area -/

theorem areaCovers_iff {a : MemArea} {pa : Addr} : areaCovers a pa = true ↔ a.start ≤ pa.toNat ∧ pa.toNat ≤ a.stop := by
  simp [areaCovers]

theorem areaAt_of_first {before after : List MemArea} {a : MemArea} {pa : Addr}
    (hbefore : ∀ b ∈ before, ¬ (b.start ≤ pa.toNat ∧ pa.toNat ≤ b.stop)) (ha : a.start ≤ pa.toNat ∧ pa.toNat ≤ a.stop) :
    areaAt (before ++ a :: after) pa = some a :=
  List.find?_eq_some_iff_append.mpr
    ⟨areaCovers_iff.mpr ha, before, after, rfl, fun b hb => by simpa using areaCovers_iff.not.mpr (hbefore b hb)⟩

theorem areaAt_of_uncovered {areas : List MemArea} {pa : Addr}
    (h : ∀ b ∈ areas, ¬ (b.start ≤ pa.toNat ∧ pa.toNat ≤ b.stop)) : areaAt areas pa = none :=
  List.find?_eq_none.mpr fun b hb => areaCovers_iff.not.mpr (h b hb)

theorem isReadable_of_areaAt {areas : List MemArea} {pa : Addr} {a : MemArea} (h : areaAt areas pa = some a) :
    isReadable areas pa = a.readable := by
  simp [isReadable, h]

theorem isWritable_of_areaAt {areas : List MemArea} {pa : Addr} {a : MemArea} (h : areaAt areas pa = some a) :
    isWritable areas pa = a.writable := by
  simp [isWritable, h]

theorem isReadable_of_areaAt_none {areas : List MemArea} {pa : Addr} (h : areaAt areas pa = none) :
    isReadable areas pa = false := by
  simp [isReadable, h]

theorem isWritable_of_areaAt_none {areas : List MemArea} {pa : Addr} (h : areaAt areas pa = none) :
    isWritable areas pa = false := by
  simp [isWritable, h]

theorem State.byteAt_busWrite8_same {s : State} (h : Memory.wf s.mem = true) (pa : Addr) (v : Byte) :
    (s.busWrite8 pa v).byteAt pa = if isWritable s.areas pa then v else s.byteAt pa := by
  simp [State.byteAt_busWrite8 h]

theorem State.busRead8_busWrite8_other {s : State} (h : Memory.wf s.mem = true) {pa x : Addr} (v : Byte) (hx : x ≠ pa) :
    (s.busWrite8 pa v).busRead8 x = s.busRead8 x := by
  simp [State.busRead8, State.byteAt_busWrite8 h, hx]

/-- Settles O24: a bus access is decided by what `areaAt` finds. -/
theorem firstAreaDecides : Obligations.FirstAreaDecides := by
  unfold Obligations.FirstAreaDecides
  intro s pa v hw
  refine ⟨?_, ?_, fun x hx => State.busRead8_busWrite8_other hw v hx⟩
  · intro before a after hareas hbefore hstart hstop
    have hat : areaAt s.areas pa = some a := hareas ▸ areaAt_of_first hbefore ⟨hstart, hstop⟩
    exact ⟨by rw [State.busRead8, isReadable_of_areaAt hat],
      by rw [State.byteAt_busWrite8_same hw, isWritable_of_areaAt hat]⟩
  · intro huncovered
    have hat : areaAt s.areas pa = none := areaAt_of_uncovered huncovered
    exact ⟨by simp [State.busRead8, isReadable_of_areaAt_none hat],
      by simp [State.byteAt_busWrite8_same hw, isWritable_of_areaAt_none hat]⟩

/-- Writes to other addresses leave what an address reads as. -/
theorem State.busRead8_foldWrites_other {s : State} (h : Memory.wf s.mem = true) {pa : Addr} {ws : List (Addr × Byte)}
    (hws : ∀ w ∈ ws, w.1 ≠ pa) : (ws.foldl (fun u w => u.busWrite8 w.1 w.2) s).busRead8 pa = s.busRead8 pa := by
  induction ws generalizing s with
  | nil => rfl
  | cons w ws ih =>
    obtain ⟨hne, hrest⟩ := List.forall_mem_cons.mp hws
    rw [List.foldl_cons, ih (State.busWrite8_wf h w.1 w.2) hrest, State.busRead8_busWrite8_other h w.2 hne.symm]

/-- Settles O25: the byte is stored and read back, and the later writes do not reach it. -/
theorem writtenByteReadsBack : Obligations.WrittenByteReadsBack := by
  unfold Obligations.WrittenByteReadsBack
  intro s pa v others hw hreadable hwritable hothers
  rw [State.busRead8_foldWrites_other (State.busWrite8_wf hw pa v) hothers, State.busRead8, State.busWrite8_areas,
    if_pos hreadable, State.byteAt_busWrite8_same hw, if_pos hwritable]

/-! ### Words and physical addresses -/

/-- Settles O26: a word is joined from, and split into, two bytes, each routed on its own. -/
theorem wordAccess : Obligations.WordAccess := by
  unfold Obligations.WordAccess
  intro s seg off hw
  refine ⟨rfl, ?_, fun v x => State.byteAt_store8 hw seg off x v, fun v => ⟨?_, lowByte_toNat v, highByte_toNat v⟩⟩
  · rw [State.load16, State.memRead16, wordOf_toNat, Nat.add_comm]
  · exact fun x => State.byteAt_store16 hw seg off v x

/-- Settles O22, by the arithmetic of `phys`. -/
theorem physicalAddress : Obligations.PhysicalAddress := by
  unfold Obligations.PhysicalAddress
  exact ⟨phys_toNat, by decide, by decide⟩

/-! ### Loading an image -/

theorem hiddenBefore_iff {areas : List MemArea} {k : Nat} {x : Addr} :
    hiddenBefore areas k x = true ↔ ∃ b ∈ areas.take k, b.start ≤ x.toNat ∧ x.toNat ≤ b.stop := by
  simp only [hiddenBefore, List.any_eq_true, areaCovers_iff]

/-- An image that does not end with the area is refused. -/
theorem State.loadImage_of_size_ne {s : State} {k offset : Nat} {a : MemArea} {image : List Byte}
    (hk : s.areas[k]? = some a) (h : a.start + offset + image.length ≠ a.stop + 1) : s.loadImage k offset image = none := by
  simp [State.loadImage, hk, h]

/-- One that does is stored. -/
theorem State.loadImage_of_size_eq {s : State} {k offset : Nat} {a : MemArea} {image : List Byte}
    (hk : s.areas[k]? = some a) (hstop : a.stop < 2 ^ 20) (h : a.start + offset + image.length = a.stop + 1) :
    s.loadImage k offset image =
      some { s with mem := loadBytes (hiddenBefore s.areas k) s.mem (a.start + offset) image } := by
  simp only [State.loadImage, hk, hstop, h, and_self, if_true]

/-- Settles O60: the size decides, and the bytes are those of `read_loadBytes`. -/
theorem imageLoads : Obligations.ImageLoads := by
  unfold Obligations.ImageLoads
  intro s k a offset image hw hk hstop hidden
  refine ⟨State.loadImage_of_size_ne hk, fun hsize => ?_⟩
  have hfits : a.start + offset + image.length ≤ 2 ^ 20 := by omega
  refine ⟨_, State.loadImage_of_size_eq hk hstop hsize, wf_loadBytes _ hw hfits, rfl, ?_, ?_⟩
  · intro n hn hvisible
    have haddr : (BitVec.ofNat 20 (a.start + offset + n)).toNat = a.start + offset + n :=
      Nat.mod_eq_of_lt (by omega)
    refine (read_loadBytes _ hw hfits _).trans ?_
    rw [dif_pos (by omega), if_neg (hiddenBefore_iff.not.mpr hvisible)]
    simp [haddr]
  · intro x hx
    refine (read_loadBytes _ hw hfits x).trans ?_
    split
    · have hhidden : hidden x := hx.resolve_right (not_not.mpr (by omega))
      exact if_pos (hiddenBefore_iff.mpr hhidden)
    · rfl

end Sys2Proof.Machine
end

section
/-! SUPPORT. Decoding and encoding are inverse: every instruction by the shape of its encoding, every opcode by its row
of the map (spec/30_encoding.md R102 to R126). Settles O1, O2, O3, O5 and O6. -/

namespace Sys2Proof

/-! ### Encodings decode -/

section
variable {k : BitVec 3 → Rm (BitVec 3) → Tail}

@[simp] theorem Form.run_modrm_encodeRm8 {rm : Rm Reg8} (h : rm.wf = true) (g : BitVec 3) (bs : List Byte) :
    (Form.modrm k).run (encodeRm8 g rm ++ bs) = (k g (rm.map Reg8.num)).run bs :=
  Form.run_modrm (decodeRm_encodeRm8 h g bs)

@[simp] theorem Form.run_modrm_encodeRm16 {rm : Rm Reg16} (h : rm.wf = true) (g : BitVec 3) (bs : List Byte) :
    (Form.modrm k).run (encodeRm16 g rm ++ bs) = (k g (rm.map Reg16.num)).run bs :=
  Form.run_modrm (decodeRm_encodeRm16 h g bs)

@[simp] theorem Form.run_modrm_encodeMem {m : MemOp} (h : m.wf = true) (g : BitVec 3) (bs : List Byte) :
    (Form.modrm k).run (encodeMem g m ++ bs) = (k g (.mem m)).run bs :=
  Form.run_modrm (decodeRm_encodeMem h g bs)

end

@[simp] theorem Tail.run_iw_encodeWord (k : Word → Instr) (w : Word) (bs : List Byte) :
    (Tail.iw k).run (encodeWord w ++ bs) = .ok (k w, bs) := by
  simp [encodeWord]

@[simp] theorem Form.run_far_encodeWord (k : Word → Word → Instr) (u v : Word) (bs : List Byte) :
    (Form.far k).run (encodeWord u ++ (encodeWord v ++ bs)) = .ok (k u v, bs) := by
  simp [encodeWord]

/-! The opcodes whose low three bits are a register number (R112). -/

@[simp] theorem opcodeForm_opcodePlus_40 (r : Reg16) :
    opcodeForm (opcodePlus 0x40#8 r.num) = .plain (.done (.incR16 r)) := by
  cases r <;> rfl
@[simp] theorem opcodeForm_opcodePlus_48 (r : Reg16) :
    opcodeForm (opcodePlus 0x48#8 r.num) = .plain (.done (.decR16 r)) := by
  cases r <;> rfl
@[simp] theorem opcodeForm_opcodePlus_50 (r : Reg16) :
    opcodeForm (opcodePlus 0x50#8 r.num) = .plain (.done (.pushR16 r)) := by
  cases r <;> rfl
@[simp] theorem opcodeForm_opcodePlus_58 (r : Reg16) :
    opcodeForm (opcodePlus 0x58#8 r.num) = .plain (.done (.popR16 r)) := by
  cases r <;> rfl
@[simp] theorem opcodeForm_opcodePlus_90 (r : Reg16) :
    opcodeForm (opcodePlus 0x90#8 r.num) = .plain (.done (.xchgAxR16 r)) := by
  cases r <;> rfl
@[simp] theorem opcodeForm_opcodePlus_B0 (r : Reg8) :
    opcodeForm (opcodePlus 0xB0#8 r.num) = .plain (.ib (.movR8Ib r)) := by
  cases r <;> rfl
@[simp] theorem opcodeForm_opcodePlus_B8 (r : Reg16) :
    opcodeForm (opcodePlus 0xB8#8 r.num) = .plain (.iw (.movR16Iw r)) := by
  cases r <;> rfl

theorem wf_invalidMrm {op : Byte} {g : BitVec 3} {rm : Rm (BitVec 3)} :
    (Instr.invalidMrm op g rm).wf = true ↔ isInvalidSub op g rm.isReg = true ∧ rm.wf = true := by
  simp [Instr.wf]

/-- Settles O1, by the shape of the encoding: the opcode selects the row, the ModR/M byte and displacement give back the
`reg` field and the operand (`decodeRm_encodeRm`), the immediate its value. -/
theorem decodeOfEncode : Obligations.DecodeOfEncode := by
  unfold Obligations.DecodeOfEncode
  intro i rest h
  cases i with
  | pushEs | pushCs | pushSs | pushDs | popEs | popSs | popDs | ret | retf | clc | stc | cli | sti | cld | std | cmc
  | movsb | movsw | cmpsb | cmpsw | stosb | stosw | lodsb | lodsw | scasb | scasw | inAlDx | inAxDx | outDxAl
  | outDxAx | prefixEs | prefixCs | prefixSs | prefixDs | prefixRepne | prefixRep | hlt | addAlIb | orAlIb | adcAlIb
  | sbbAlIb | andAlIb | subAlIb | xorAlIb | cmpAlIb | testAlIb | inAlIb | inAxIb | outIbAl | outIbAx | jo | jno | jb
  | jnb | je | jne | jbe | jnbe | js | jns | jp | jnp | jl | jnl | jle | jnle | jmpShort | loopne | loope | loop
  | jcxz =>
    rfl
  | addAxIw | orAxIw | adcAxIw | sbbAxIw | andAxIw | subAxIw | xorAxIw | cmpAxIw | testAxIw | retIw | retfIw
  | movAlMoffs | movAxMoffs | movMoffsAl | movMoffsAx | jmpNear | callNear | jmpFar | callFar | incR16 | decR16
  | xchgAxR16 | pushR16 | popR16 | movR8Ib | movR16Iw =>
    simp [encode]
  | addRm8R8 rm r | addR8Rm8 r rm | orRm8R8 rm r | orR8Rm8 r rm | adcRm8R8 rm r | adcR8Rm8 r rm | sbbRm8R8 rm r
  | sbbR8Rm8 r rm | andRm8R8 rm r | andR8Rm8 r rm | subRm8R8 rm r | subR8Rm8 r rm | xorRm8R8 rm r | xorR8Rm8 r rm
  | cmpRm8R8 rm r | cmpR8Rm8 r rm | testRm8R8 rm r | movRm8R8 rm r | movR8Rm8 r rm | xchgRm8R8 rm r
  | addRm16R16 rm r | addR16Rm16 r rm | orRm16R16 rm r | orR16Rm16 r rm | adcRm16R16 rm r | adcR16Rm16 r rm
  | sbbRm16R16 rm r | sbbR16Rm16 r rm | andRm16R16 rm r | andR16Rm16 r rm | subRm16R16 rm r | subR16Rm16 r rm
  | xorRm16R16 rm r | xorR16Rm16 r rm | cmpRm16R16 rm r | cmpR16Rm16 r rm | testRm16R16 rm r | movRm16R16 rm r
  | movR16Rm16 r rm | xchgRm16R16 rm r | movRm16Sreg rm sr | movSregRm16 sr rm =>
    simp [encode, show rm.wf = true from h, segmentForm]
  | incRm8 rm | decRm8 rm | negRm8 rm | mulRm8 rm | imulRm8 rm | divRm8 rm | idivRm8 rm | notRm8 rm | rolRm8One rm
  | rolRm8Cl rm | rorRm8One rm | rorRm8Cl rm | rclRm8One rm | rclRm8Cl rm | rcrRm8One rm | rcrRm8Cl rm
  | shlRm8One rm | shlRm8Cl rm | shrRm8One rm | shrRm8Cl rm | sarRm8One rm | sarRm8Cl rm | incRm16 rm | decRm16 rm
  | negRm16 rm | mulRm16 rm | imulRm16 rm | divRm16 rm | idivRm16 rm | notRm16 rm | rolRm16One rm | rolRm16Cl rm
  | rorRm16One rm | rorRm16Cl rm | rclRm16One rm | rclRm16Cl rm | rcrRm16One rm | rcrRm16Cl rm | shlRm16One rm
  | shlRm16Cl rm | shrRm16One rm | shrRm16Cl rm | sarRm16One rm | sarRm16Cl rm | pushRm16 rm | popRm16 rm
  | jmpRm16 rm | callRm16 rm =>
    simp [encode, show rm.wf = true from h, group2_D0, group2_D1, group2_D2, group2_D3, group3_F6, group3_F7,
      group4_FE, group5_FF, slashZero]
  | addRm8Ib rm | addRm8IbAlt rm | orRm8Ib rm | orRm8IbAlt rm | adcRm8Ib rm | adcRm8IbAlt rm | sbbRm8Ib rm
  | sbbRm8IbAlt rm | andRm8Ib rm | andRm8IbAlt rm | subRm8Ib rm | subRm8IbAlt rm | xorRm8Ib rm | xorRm8IbAlt rm
  | cmpRm8Ib rm | cmpRm8IbAlt rm | testRm8Ib rm | movRm8Ib rm | addRm16Iw rm | orRm16Iw rm | adcRm16Iw rm
  | sbbRm16Iw rm | andRm16Iw rm | subRm16Iw rm | xorRm16Iw rm | cmpRm16Iw rm | testRm16Iw rm | movRm16Iw rm
  | addRm16Ib rm | orRm16Ib rm | adcRm16Ib rm | sbbRm16Ib rm | andRm16Ib rm | subRm16Ib rm | xorRm16Ib rm
  | cmpRm16Ib rm =>
    simp [encode, show rm.wf = true from h, group1_80, group1_81, group1_82, group1_83, group3_F6, group3_F7, slashZero]
  | leaR16M r m | lesR16M r m | ldsR16M r m | jmpM1616 m | callM1616 m =>
    simp [encode, show m.wf = true from h, memOnly, group5_FF]
  | invalidOp op => simp [encode, opcodeForm_unpopulated h]
  | invalidMrm op g rm =>
    obtain ⟨hi, hw⟩ := wf_invalidMrm.mp h
    exact Form.run_invalidSub hi hw rest

/-! ### What decodes is an encoding -/

/-- The instructions that end with the tail are well-formed, and their encodings are the bytes before it and its own. -/
def Tail.EncodesAfter (before : List Byte) : Tail → Prop
  | .done i => i.wf = true ∧ encode i = before
  | .ib k => ∀ b, (k b).wf = true ∧ encode (k b) = before ++ [b]
  | .iw k => ∀ w, (k w).wf = true ∧ encode (k w) = before ++ encodeWord w

/-- The instructions of the format are well-formed, and their encodings are the opcode and the bytes it reads. -/
def Form.EncodesUnder (op : Byte) : Form → Prop
  | .plain t => t.EncodesAfter [op]
  | .far k => ∀ u v, (k u v).wf = true ∧ encode (k u v) = op :: (encodeWord u ++ encodeWord v)
  | .modrm k => ∀ (g : BitVec 3) (rm : Rm (BitVec 3)), rm.wf = true → (k g rm).EncodesAfter (op :: encodeRm g rm)

theorem Tail.EncodesAfter.encode_of_run {t : Tail} {before bs rest : List Byte} {i : Instr}
    (ht : t.EncodesAfter before) (h : t.run bs = .ok (i, rest)) : i.wf = true ∧ encode i ++ rest = before ++ bs := by
  obtain ⟨rfl, rfl⟩ | ⟨k, b, rfl, rfl, rfl⟩ | ⟨k, w, rfl, rfl, rfl⟩ := Tail.run_split h
  · exact ⟨ht.1, by rw [ht.2]⟩
  · exact ⟨(ht b).1, by simp [(ht b).2]⟩
  · exact ⟨(ht w).1, by simp [(ht w).2]⟩

/-- What a far pointer format read: the offset word, then the segment word. -/
theorem Form.run_far_split {k : Word → Word → Instr} {bs rest : List Byte} {i : Instr}
    (h : (Form.far k).run bs = .ok (i, rest)) : ∃ u v, i = k u v ∧ bs = encodeWord u ++ encodeWord v ++ rest := by
  match bs, h with
  | o0 :: o1 :: s0 :: s1 :: bs, h =>
    cases h
    exact ⟨_, _, rfl, by simp [encodeWord]⟩

theorem Form.EncodesUnder.encode_of_run {f : Form} {op : Byte} {bs rest : List Byte} {i : Instr}
    (hf : f.EncodesUnder op) (h : f.run bs = .ok (i, rest)) : i.wf = true ∧ encode i ++ rest = op :: bs := by
  cases f with
  | plain t => exact Tail.EncodesAfter.encode_of_run hf h
  | far k =>
    obtain ⟨u, v, rfl, rfl⟩ := Form.run_far_split h
    exact ⟨(hf u v).1, by simp [(hf u v).2]⟩
  | modrm k =>
    obtain ⟨g, rm, bs', hw, rfl, hrun⟩ := Form.run_modrm_split h
    exact (hf g rm hw).encode_of_run hrun

/-! ### The groups of R121 and the invalid sub-encodings -/

@[simp] theorem encodeRm8_byte (g : BitVec 3) (rm : Rm (BitVec 3)) : encodeRm8 g rm.byte = encodeRm g rm := by
  simp [encodeRm8]

@[simp] theorem encodeRm16_word (g : BitVec 3) (rm : Rm (BitVec 3)) : encodeRm16 g rm.word = encodeRm g rm := by
  simp [encodeRm16]

/-- The eight values of a `reg` field. -/
theorem regField_cases : ∀ g : BitVec 3, g = 0 ∨ g = 1 ∨ g = 2 ∨ g = 3 ∨ g = 4 ∨ g = 5 ∨ g = 6 ∨ g = 7 := by decide

section
variable {op : Byte} {g : BitVec 3} {rm : Rm (BitVec 3)}

theorem encodesAfter_invalidMrm (hi : isInvalidSub op g rm.isReg = true) (hw : rm.wf = true) :
    (Tail.done (.invalidMrm op g rm)).EncodesAfter (op :: encodeRm g rm) :=
  ⟨wf_invalidMrm.mpr ⟨hi, hw⟩, rfl⟩

theorem encodesAfter_memOnly {k : MemOp → Instr} (hi : isInvalidSub op g true = true)
    (hk : ∀ m, (k m).wf = m.wf ∧ encode (k m) = op :: encodeMem g m) (hw : rm.wf = true) :
    (Tail.done (memOnly op k g rm)).EncodesAfter (op :: encodeRm g rm) := by
  cases rm with
  | reg r => exact encodesAfter_invalidMrm hi hw
  | mem m => exact ⟨(hk m).1.trans hw, (hk m).2⟩

theorem encodesAfter_segmentForm {k : Sreg → Rm Reg16 → Instr}
    (hi : ∀ g b, Sreg.ofNum? g = none → isInvalidSub op g b = true)
    (hk : ∀ sr rm, (k sr rm).wf = rm.wf ∧ encode (k sr rm) = op :: encodeRm16 sr.num3 rm) (hw : rm.wf = true) :
    (Tail.done (segmentForm op k g rm)).EncodesAfter (op :: encodeRm g rm) := by
  unfold segmentForm
  split
  · next sr hsr =>
    obtain ⟨hwf, henc⟩ := hk sr rm.word
    exact ⟨hwf.trans ((Rm.wf_word rm).trans hw), by rw [henc, encodeRm16_word, Sreg.num3_of_ofNum? g sr hsr]⟩
  · next hnone => exact encodesAfter_invalidMrm (hi g _ hnone) hw

theorem encodesAfter_slashZero {t : Tail} (hi : ∀ g b, g ≠ 0 → isInvalidSub op g b = true)
    (ht : t.EncodesAfter (op :: encodeRm 0 rm)) (hw : rm.wf = true) :
    (slashZero op t g rm).EncodesAfter (op :: encodeRm g rm) := by
  unfold slashZero
  split
  · next hg => exact hg ▸ ht
  · next hg => exact encodesAfter_invalidMrm (hi g _ hg) hw

theorem encodesAfter_group5_FF (hw : rm.wf = true) :
    (Tail.done (group5_FF g rm)).EncodesAfter (0xFF :: encodeRm g rm) := by
  by_cases hmem : g = 3 ∨ g = 5
  · obtain rfl | rfl := hmem <;> exact encodesAfter_memOnly (by decide) (fun m => ⟨rfl, rfl⟩) hw
  · obtain rfl | rfl | rfl | rfl | rfl | rfl | rfl | rfl := regField_cases g <;>
      simp_all [Tail.EncodesAfter, group5_FF, encode, Instr.wf, isInvalidSub]

end

/-! ### The rows of the opcode map (R124) -/

/-- The opcodes that are an instruction by themselves. -/
def bareOpcodes : List Byte :=
  [0x06, 0x07, 0x0E, 0x16, 0x17, 0x1E, 0x1F, 0x26, 0x2E, 0x36, 0x3E, 0x40, 0x41, 0x42, 0x43, 0x44, 0x45, 0x46, 0x47,
   0x48, 0x49, 0x4A, 0x4B, 0x4C, 0x4D, 0x4E, 0x4F, 0x50, 0x51, 0x52, 0x53, 0x54, 0x55, 0x56, 0x57, 0x58, 0x59, 0x5A,
   0x5B, 0x5C, 0x5D, 0x5E, 0x5F, 0x90, 0x91, 0x92, 0x93, 0x94, 0x95, 0x96, 0x97, 0xA4, 0xA5, 0xA6, 0xA7, 0xAA, 0xAB,
   0xAC, 0xAD, 0xAE, 0xAF, 0xC3, 0xCB, 0xEC, 0xED, 0xEE, 0xEF, 0xF2, 0xF3, 0xF4, 0xF5, 0xF8, 0xF9, 0xFA, 0xFB, 0xFC,
   0xFD]

/-- The opcodes that a byte immediate follows. -/
def byteImmediateOpcodes : List Byte :=
  [0x04, 0x0C, 0x14, 0x1C, 0x24, 0x2C, 0x34, 0x3C, 0x70, 0x71, 0x72, 0x73, 0x74, 0x75, 0x76, 0x77, 0x78, 0x79, 0x7A,
   0x7B, 0x7C, 0x7D, 0x7E, 0x7F, 0xA8, 0xB0, 0xB1, 0xB2, 0xB3, 0xB4, 0xB5, 0xB6, 0xB7, 0xE0, 0xE1, 0xE2, 0xE3, 0xE4,
   0xE5, 0xE6, 0xE7, 0xEB]

/-- The opcodes that a word immediate follows. -/
def wordImmediateOpcodes : List Byte :=
  [0x05, 0x0D, 0x15, 0x1D, 0x25, 0x2D, 0x35, 0x3D, 0xA0, 0xA1, 0xA2, 0xA3, 0xA9, 0xB8, 0xB9, 0xBA, 0xBB, 0xBC, 0xBD,
   0xBE, 0xBF, 0xC2, 0xCA, 0xE8, 0xE9]

/-- The opcodes of a byte register and a byte operand. -/
def byteOperandsOpcodes : List Byte :=
  [0x00, 0x02, 0x08, 0x0A, 0x10, 0x12, 0x18, 0x1A, 0x20, 0x22, 0x28, 0x2A, 0x30, 0x32, 0x38, 0x3A, 0x84, 0x86, 0x88,
   0x8A]

/-- The opcodes of a word register and a word operand. -/
def wordOperandsOpcodes : List Byte :=
  [0x01, 0x03, 0x09, 0x0B, 0x11, 0x13, 0x19, 0x1B, 0x21, 0x23, 0x29, 0x2B, 0x31, 0x33, 0x39, 0x3B, 0x85, 0x87, 0x89,
   0x8B]

/-- The opcodes whose `reg` field is a segment register or 0, or whose operand is memory, and group 5 (R126). -/
def restrictedOpcodes : List Byte := [0x8C, 0x8E, 0x8D, 0xC4, 0xC5, 0x8F, 0xC6, 0xC7, 0xFF]

theorem opcode_cases : ∀ op : Byte,
    op ∈ bareOpcodes ∨ op ∈ byteImmediateOpcodes ∨ op ∈ wordImmediateOpcodes ∨ op ∈ [0x9A, 0xEA] ∨
    op ∈ byteOperandsOpcodes ∨ op ∈ wordOperandsOpcodes ∨ op ∈ [0x80, 0x81, 0x82, 0x83] ∨
    op ∈ [0xD0, 0xD1, 0xD2, 0xD3] ∨ op ∈ [0xF6, 0xF7, 0xFE] ∨ op ∈ restrictedOpcodes ∨ isUnpopulated op = true := by
  decide +kernel

theorem encodesUnder_bareOpcodes {op : Byte} (h : op ∈ bareOpcodes) : (opcodeForm op).EncodesUnder op := by
  unfold bareOpcodes at h
  fin_cases h <;> exact ⟨rfl, rfl⟩

theorem encodesUnder_byteImmediateOpcodes {op : Byte} (h : op ∈ byteImmediateOpcodes) :
    (opcodeForm op).EncodesUnder op := by
  unfold byteImmediateOpcodes at h
  fin_cases h <;> exact fun _ => ⟨rfl, rfl⟩

theorem encodesUnder_wordImmediateOpcodes {op : Byte} (h : op ∈ wordImmediateOpcodes) :
    (opcodeForm op).EncodesUnder op := by
  unfold wordImmediateOpcodes at h
  fin_cases h <;> exact fun _ => ⟨rfl, rfl⟩

theorem encodesUnder_byteOperandsOpcodes {op : Byte} (h : op ∈ byteOperandsOpcodes) :
    (opcodeForm op).EncodesUnder op := by
  unfold byteOperandsOpcodes at h
  fin_cases h <;> exact fun g rm hw => ⟨(Rm.wf_byte rm).trans hw, by simp [encode]⟩

theorem encodesUnder_wordOperandsOpcodes {op : Byte} (h : op ∈ wordOperandsOpcodes) :
    (opcodeForm op).EncodesUnder op := by
  unfold wordOperandsOpcodes at h
  fin_cases h <;> exact fun g rm hw => ⟨(Rm.wf_word rm).trans hw, by simp [encode]⟩

theorem encodesUnder_far {op : Byte} (h : op ∈ [0x9A, 0xEA]) : (opcodeForm op).EncodesUnder op := by
  fin_cases h <;> exact fun u v => ⟨rfl, rfl⟩

theorem encodesUnder_group1 {op : Byte} (h : op ∈ [0x80, 0x81, 0x82, 0x83]) : (opcodeForm op).EncodesUnder op := by
  fin_cases h <;> intro g rm hw imm <;>
    obtain rfl | rfl | rfl | rfl | rfl | rfl | rfl | rfl := regField_cases g <;>
    simp [group1_80, group1_81, group1_82, group1_83, encode, Instr.wf, hw]

theorem encodesUnder_group2 {op : Byte} (h : op ∈ [0xD0, 0xD1, 0xD2, 0xD3]) : (opcodeForm op).EncodesUnder op := by
  fin_cases h <;> intro g rm hw <;>
    obtain rfl | rfl | rfl | rfl | rfl | rfl | rfl | rfl := regField_cases g <;>
    simp [Tail.EncodesAfter, group2_D0, group2_D1, group2_D2, group2_D3, encode, Instr.wf, isInvalidSub, hw]

theorem encodesUnder_group3_group4 {op : Byte} (h : op ∈ [0xF6, 0xF7, 0xFE]) : (opcodeForm op).EncodesUnder op := by
  fin_cases h <;> intro g rm hw <;>
    obtain rfl | rfl | rfl | rfl | rfl | rfl | rfl | rfl := regField_cases g <;>
    simp [Tail.EncodesAfter, group3_F6, group3_F7, group4_FE, encode, Instr.wf, isInvalidSub, hw]

theorem encodesUnder_restrictedOpcodes {op : Byte} (h : op ∈ restrictedOpcodes) : (opcodeForm op).EncodesUnder op := by
  simp only [restrictedOpcodes, List.mem_cons, List.not_mem_nil, or_false] at h
  obtain rfl | rfl | rfl | rfl | rfl | rfl | rfl | rfl | rfl := h <;> intro g rm hw
  · exact encodesAfter_segmentForm (by decide) (fun _ _ => ⟨rfl, rfl⟩) hw
  · exact encodesAfter_segmentForm (by decide) (fun _ _ => ⟨rfl, rfl⟩) hw
  · exact encodesAfter_memOnly rfl (fun m => ⟨rfl, by simp [encode]⟩) hw
  · exact encodesAfter_memOnly rfl (fun m => ⟨rfl, by simp [encode]⟩) hw
  · exact encodesAfter_memOnly rfl (fun m => ⟨rfl, by simp [encode]⟩) hw
  · exact encodesAfter_slashZero (by decide) ⟨(Rm.wf_word rm).trans hw, by simp [encode]⟩ hw
  · exact encodesAfter_slashZero (by decide) (fun ib => ⟨(Rm.wf_byte rm).trans hw, by simp [encode]⟩) hw
  · exact encodesAfter_slashZero (by decide) (fun iw => ⟨(Rm.wf_word rm).trans hw, by simp [encode]⟩) hw
  · exact encodesAfter_group5_FF hw

theorem encodesUnder_unpopulated {op : Byte} (h : isUnpopulated op = true) : (opcodeForm op).EncodesUnder op := by
  rw [opcodeForm_unpopulated h]
  exact ⟨h, rfl⟩

/-- Every row of the opcode map encodes back to the bytes it reads. -/
theorem opcodeForm_encodesUnder (op : Byte) : (opcodeForm op).EncodesUnder op := by
  obtain h | h | h | h | h | h | h | h | h | h | h := opcode_cases op
  · exact encodesUnder_bareOpcodes h
  · exact encodesUnder_byteImmediateOpcodes h
  · exact encodesUnder_wordImmediateOpcodes h
  · exact encodesUnder_far h
  · exact encodesUnder_byteOperandsOpcodes h
  · exact encodesUnder_wordOperandsOpcodes h
  · exact encodesUnder_group1 h
  · exact encodesUnder_group2 h
  · exact encodesUnder_group3_group4 h
  · exact encodesUnder_restrictedOpcodes h
  · exact encodesUnder_unpopulated h

/-- Settles O2: the row of the first byte encodes back to what it reads. -/
theorem encodeOfDecode : Obligations.EncodeOfDecode := by
  unfold Obligations.EncodeOfDecode
  intro bs rest i h
  match bs, h with
  | op :: bs, h => exact (opcodeForm_encodesUnder op).encode_of_run h

/-! ### Lengths, and the invalid encodings -/

theorem Tail.run_front {t : Tail} {bs rest : List Byte} {i : Instr} (h : t.run bs = .ok (i, rest)) :
    ∃ used, bs = used ++ rest ∧ used.length ≤ 2 := by
  obtain ⟨-, rfl⟩ | ⟨-, b, -, -, rfl⟩ | ⟨-, w, -, -, rfl⟩ := Tail.run_split h
  · exact ⟨[], rfl, by simp⟩
  · exact ⟨[b], rfl, by simp⟩
  · exact ⟨encodeWord w, rfl, le_refl 2⟩

/-- A format reads at most five bytes: a ModR/M byte, two bytes of displacement and two of immediate. -/
theorem Form.run_front {f : Form} {bs rest : List Byte} {i : Instr} (h : f.run bs = .ok (i, rest)) :
    ∃ used, bs = used ++ rest ∧ used.length ≤ 5 := by
  cases f with
  | plain t =>
    obtain ⟨used, hbs, hlen⟩ := Tail.run_front h
    exact ⟨used, hbs, by omega⟩
  | far k =>
    obtain ⟨u, v, -, hbs⟩ := Form.run_far_split h
    exact ⟨encodeWord u ++ encodeWord v, hbs, by simp⟩
  | modrm k =>
    obtain ⟨g, rm, bs', -, rfl, hrun⟩ := Form.run_modrm_split h
    obtain ⟨used, rfl, hlen⟩ := Tail.run_front hrun
    have hrm := (encodeRm_length g rm).2
    exact ⟨encodeRm g rm ++ used, by simp, by simp; omega⟩

/-- Settles O3: five bytes after the opcode are enough for every format, and none reads more. -/
theorem sixBytesDecode : Obligations.SixBytesDecode := by
  unfold Obligations.SixBytesDecode
  intro bs hlen
  match bs, hlen with
  | op :: bs, hlen =>
    obtain ⟨i, rest, hrun⟩ := Form.run_total (opcodeForm op) (bs := bs) (by simpa using hlen)
    obtain ⟨used, rfl, hused⟩ := Form.run_front hrun
    exact ⟨i, op :: used, rest, hrun, rfl, by simp, Nat.succ_le_succ hused⟩

/-- The fifty bytes of R125 as the statement lists them. -/
theorem isUnpopulated_iff : ∀ op : Byte, isUnpopulated op = true ↔
    op.toNat ∈ [0x0F, 0x27, 0x2F, 0x37, 0x3F, 0x98, 0x99, 0x9B, 0x9C, 0x9D, 0x9E, 0x9F] ∨
    0x60 ≤ op.toNat ∧ op.toNat ≤ 0x6F ∨
    op.toNat ∈ [0xC0, 0xC1, 0xC8, 0xC9, 0xCC, 0xCD, 0xCE, 0xCF, 0xD4, 0xD5, 0xD6, 0xD7] ∨
    0xD8 ≤ op.toNat ∧ op.toNat ≤ 0xDF ∨ op.toNat = 0xF0 ∨ op.toNat = 0xF1 := by decide +kernel

/-- Settles O5: an instruction decodes exactly from its encoding, so a bare invalid one from its own byte, if that byte
is unpopulated. -/
theorem Machine.unpopulatedBytes : Obligations.UnpopulatedBytes := by
  unfold Obligations.UnpopulatedBytes
  intro op rest
  refine ⟨(Iff.intro (fun h => ?_) fun h => ?_).trans (isUnpopulated_iff op), fun op' rest' h => ?_⟩
  · exact (encodeOfDecode _ _ _ h).1
  · exact decodeOfEncode (.invalidOp op) rest h
  · have hbytes : [op'] ++ rest' = op :: rest := (encodeOfDecode _ _ _ h).2
    simpa using hbytes

/-- The table of R126 as the statement lists it. -/
theorem isInvalidSub_iff (isReg : Bool) : ∀ (op : Byte) (g : BitVec 3), isInvalidSub op g isReg = true ↔
    (op = 0x8C ∨ op = 0x8E) ∧ 4 ≤ g.toNat ∨
    (op = 0x8F ∨ op = 0xC6 ∨ op = 0xC7) ∧ 1 ≤ g.toNat ∨
    (op = 0xD0 ∨ op = 0xD1 ∨ op = 0xD2 ∨ op = 0xD3) ∧ g.toNat = 6 ∨
    (op = 0xF6 ∨ op = 0xF7) ∧ g.toNat = 1 ∨
    op = 0xFE ∧ 2 ≤ g.toNat ∨
    op = 0xFF ∧ g.toNat = 7 ∨
    (op = 0x8D ∨ op = 0xC4 ∨ op = 0xC5 ∨ op = 0xFF ∧ (g.toNat = 3 ∨ g.toNat = 5)) ∧ isReg = true := by
  cases isReg <;> decide +kernel

theorem Rm.isReg_iff {R : Type} (rm : Rm R) : rm.isReg = true ↔ ∃ r, rm = .reg r := by
  cases rm <;> simp [Rm.isReg]

/-- Settles O6: an instruction decodes exactly from its encoding, so an invalid sub-encoding from its own ModR/M form,
if that form is in the table. -/
theorem invalidSubEncodings : Obligations.InvalidSubEncodings := by
  unfold Obligations.InvalidSubEncodings
  intro op g rm rest hw
  rw [← Rm.isReg_iff, ← isInvalidSub_iff]
  constructor
  · intro h
    obtain ⟨hwf, -⟩ := encodeOfDecode _ _ _ h
    exact (wf_invalidMrm.mp hwf).1
  · intro h
    exact decodeOfEncode (.invalidMrm op g rm) rest (wf_invalidMrm.mpr ⟨h, hw⟩)

end Sys2Proof
end

section
/-! SUPPORT. The fetch loop over the bytes at CS:IP: what the window decodes to, the turns that prefixes take before an
instruction, and when the loop never ends (spec/30_encoding.md R100 to R130). Settles O7, O8 and O9. -/

namespace Sys2Proof.Machine

open Sys2Proof.Stated

/-! ### The bytes at CS:IP -/

/-- The longest encoding has six bytes (R118): six bytes that begin with an encoding decode to no more than it. -/
theorem encode_length {i : Instr} (h : i.wf = true) : 1 ≤ (encode i).length ∧ (encode i).length ≤ 6 := by
  obtain ⟨j, used, rest, hdecode, hbytes, hlen⟩ := sixBytesDecode (encode i ++ List.replicate 6 0) (by simp)
  rw [decodeOfEncode i _ h] at hdecode
  cases hdecode
  rwa [List.append_cancel_right hbytes]

/-- The window begins with the bytes that are fetched. -/
theorem fetchWindow_of_fetchesAs {s : State} {bs : List Byte} (h : FetchesAs s bs) (hlen : bs.length ≤ 6) :
    s.fetchWindow = bs ++ s.fetchWindow.drop bs.length := by
  have htake : s.fetchWindow.take bs.length = bs := by
    refine List.ext_getElem (by simp [fetchWindow_length, hlen]) fun k hk hk' => ?_
    rw [← h k hk']
    simp [State.fetchWindow, State.fetchAddr]
  rw (occs := [1]) [← List.take_append_drop bs.length s.fetchWindow, htake]

theorem decode_fetchWindow_of_fetchesAs {s : State} {i : Instr} (hw : i.wf = true) (h : FetchesAs s (encode i)) :
    ∃ rest, decode s.fetchWindow = .ok (i, rest) ∧ fetchLength - rest.length = (encode i).length := by
  obtain ⟨-, hlen⟩ := encode_length hw
  refine ⟨s.fetchWindow.drop (encode i).length, ?_, ?_⟩
  · rw [fetchWindow_of_fetchesAs h hlen]
    simpa using decodeOfEncode i _ hw
  · simp [fetchWindow_length, fetchLength]
    omega

/-- The last turn of the fetch loop. -/
theorem runItems_of_fetchesAs {s : State} {i : Instr} (hw : i.wf = true) (hp : isPrefix i = false)
    (h : FetchesAs s (encode i)) (fuel : Nat) : runItems (fuel + 1) s = exec i (s.advanceIp (encode i).length) := by
  obtain ⟨rest, hdecode, hlen⟩ := decode_fetchWindow_of_fetchesAs hw h
  simp [runItems, hdecode, hlen, hp]

/-! ### Prefix bytes -/

/-- The latches after one of `prefixBytes`: its own is set, the other is kept (R119). -/
def State.latch (s : State) (p : Byte) : State :=
  { s with segOverride := (overrideOf p).or s.segOverride, repMode := (repeatOf p).or s.repMode }

/-- The state after one of `prefixBytes` has been fetched and executed. -/
def State.passPrefix (s : State) (p : Byte) : State := (s.advanceIp 1).latch p

/-- Each of `prefixBytes` is the encoding of an instruction that sets its latch. -/
theorem exists_prefix_of_mem {p : Byte} (hp : p ∈ prefixBytes) :
    ∃ i, i.wf = true ∧ isPrefix i = true ∧ encode i = [p] ∧ ∀ s, exec i s = .next (s.latch p) := by
  unfold prefixBytes at hp
  fin_cases hp
  · exact ⟨.prefixEs, rfl, rfl, rfl, fun _ => rfl⟩
  · exact ⟨.prefixCs, rfl, rfl, rfl, fun _ => rfl⟩
  · exact ⟨.prefixSs, rfl, rfl, rfl, fun _ => rfl⟩
  · exact ⟨.prefixDs, rfl, rfl, rfl, fun _ => rfl⟩
  · exact ⟨.prefixRepne, rfl, rfl, rfl, fun _ => rfl⟩
  · exact ⟨.prefixRep, rfl, rfl, rfl, fun _ => rfl⟩

theorem encode_of_isPrefix {i : Instr} (h : isPrefix i = true) : ∃ p ∈ prefixBytes, encode i = [p] := by
  unfold isPrefix at h
  split at h
  case h_7 => cases h
  all_goals exact ⟨_, by decide, rfl⟩

theorem add_ofNat_succ (ip : Word) (k : Nat) : ip + BitVec.ofNat 16 (k + 1) = ip + 1 + BitVec.ofNat 16 k := by
  rw [Nat.add_comm, BitVec.ofNat_add, BitVec.add_assoc]
  rfl

theorem fetchesAs_cons {s : State} {b : Byte} {bs : List Byte} (p : Byte) :
    FetchesAs s (b :: bs) ↔ s.busRead8 (phys s.sregs.cs s.ip) = b ∧ FetchesAs (s.passPrefix p) bs := by
  constructor
  · intro h
    have hfirst : s.busRead8 (phys s.sregs.cs (s.ip + 0)) = b := h 0 (by simp)
    exact ⟨by simpa using hfirst, fun k hk => add_ofNat_succ s.ip k ▸ h (k + 1) (by simpa using hk)⟩
  · rintro ⟨hfirst, hrest⟩ (_ | k) hk
    · simpa using hfirst
    · exact add_ofNat_succ s.ip k ▸ hrest k (by simpa using hk)

/-- The turn of the fetch loop at one of `prefixBytes`. -/
theorem runItems_prefix {s : State} (hp : s.busRead8 (phys s.sregs.cs s.ip) ∈ prefixBytes) (fuel : Nat) :
    runItems (fuel + 1) s = runItems fuel (s.passPrefix (s.busRead8 (phys s.sregs.cs s.ip))) := by
  obtain ⟨i, hw, hprefix, hencode, hexec⟩ := exists_prefix_of_mem hp
  have hfetch : FetchesAs s (encode i) := hencode ▸ (fetchesAs_cons 0).mpr ⟨rfl, nofun⟩
  obtain ⟨rest, hdecode, hlen⟩ := decode_fetchWindow_of_fetchesAs hw hfetch
  simp [runItems, hdecode, hlen, hprefix, hexec, hencode, State.passPrefix]

/-- The turn of the fetch loop at any other byte is its last. -/
theorem runItems_of_not_prefix {s : State} (hp : s.busRead8 (phys s.sregs.cs s.ip) ∉ prefixBytes) (fuel : Nat) :
    ∃ t, runItems (fuel + 1) s = .next t := by
  obtain ⟨i, rest, hdecode⟩ := decode_fetchWindow s
  obtain ⟨t, -, -, hrun⟩ := runItems_succ fuel s hdecode
  have hi : ¬ isPrefix i = true := by
    intro hi
    obtain ⟨p, hmem, hencode⟩ := encode_of_isPrefix hi
    have hbytes : [p] ++ rest = s.fetchWindow := hencode ▸ (encodeOfDecode _ _ _ hdecode).2
    have hfirst : p = s.busRead8 (phys s.sregs.cs s.ip) := by
      simpa [State.fetchWindow, fetchLength, List.range_succ_eq_map, State.fetchAddr] using congrArg List.head? hbytes
    exact hp (hfirst ▸ hmem)
  exact ⟨t, by rw [hrun, if_neg hi]⟩

/-! ### Prefixes before an instruction -/

theorem lastOf_cons {X : Type} (kind : Byte → Option X) (p : Byte) (ps : List Byte) (o : Option X) :
    (lastOf kind (p :: ps)).or o = (lastOf kind ps).or ((kind p).or o) := by
  cases hp : kind p with
  | none => simp [lastOf, hp]
  | some x => cases hl : (ps.filterMap kind).getLast? <;> simp [lastOf, hp, List.getLast?_cons, hl]

/-- The state after the prefixes: IP past them, each latch as the last byte of its kind says. -/
theorem foldl_passPrefix (ps : List Byte) (s : State) :
    ps.foldl State.passPrefix s =
      { s with ip := s.ip + BitVec.ofNat 16 ps.length, segOverride := (lastOf overrideOf ps).or s.segOverride,
               repMode := (lastOf repeatOf ps).or s.repMode } := by
  induction ps generalizing s with
  | nil => simp [lastOf]
  | cons p ps ih =>
    rw [List.foldl_cons, ih, lastOf_cons, lastOf_cons, List.length_cons, add_ofNat_succ]
    rfl

theorem runItems_prefixes {ps bs : List Byte} {s : State} (hps : ∀ p ∈ ps, p ∈ prefixBytes)
    (h : FetchesAs s (ps ++ bs)) (fuel : Nat) :
    runItems (ps.length + fuel) s = runItems fuel (ps.foldl State.passPrefix s) ∧
      FetchesAs (ps.foldl State.passPrefix s) bs := by
  induction ps generalizing s with
  | nil => simpa using h
  | cons p ps ih =>
    obtain ⟨hfirst, hrest⟩ := (fetchesAs_cons p).mp h
    obtain ⟨hp, hps⟩ := List.forall_mem_cons.mp hps
    rw [List.length_cons, Nat.add_right_comm, runItems_prefix (hfirst ▸ hp), hfirst]
    exact ih hps hrest

/-! ### The step -/

theorem State.finish_eq_stepEnd (t : State) : t.finish = stepEnd t := by
  unfold State.finish stepEnd RunState.afterStep
  cases t.runState <;> rfl

/-- A step is the fetch loop, then the end of the step. -/
theorem step_eq_stepOutcome {s : State} (h : s.runnable = true) : step s = stepOutcome (runItems 65536 s.begin) := by
  rw [step_of_runnable h, runStep]
  cases runItems 65536 s.begin with
  | next t => exact congrArg _ t.finish_eq_stepEnd
  | fault r => rfl
  | refused r => rfl

/-- Settles O8: each of the prefixes takes a turn of the fetch loop and sets its latch; the instruction takes the last. -/
theorem stepRunsPrefixed : Obligations.StepRunsPrefixed := by
  unfold Obligations.StepRunsPrefixed
  intro s ps i hrun hw hi hps hlen hfetch
  obtain ⟨fuel, hfuel⟩ : ∃ fuel, 65536 = ps.length + (fuel + 1) := ⟨65535 - ps.length, by omega⟩
  obtain ⟨hprefixes, hinstr⟩ := runItems_prefixes (s := s.begin) hps hfetch (fuel + 1)
  have hentered : (ps.foldl State.passPrefix s.begin).advanceIp (encode i).length = entered s ps (encode i).length := by
    simp [foldl_passPrefix, State.begin, State.advanceIp, State.setIp, entered, BitVec.ofNat_add, BitVec.add_assoc]
  rw [step_eq_stepOutcome hrun, hfuel, hprefixes, runItems_of_fetchesAs hw hi hinstr, hentered]

/-- Settles O7: the list of prefixes is empty. -/
theorem stepRunsDecoded : Obligations.StepRunsDecoded := by
  unfold Obligations.StepRunsDecoded
  intro s i hrun hw hi hfetch
  exact stepRunsPrefixed s [] i hrun hw hi (by simp) (by simp) hfetch

/-! ### The endless loop -/

/-- The loop runs out of fuel exactly when it reads that many of `prefixBytes`. -/
theorem runItems_hangs_iff (n : Nat) (s : State) :
    runItems n s = .fault .prefixHang ↔
      ∀ k < n, s.busRead8 (phys s.sregs.cs (s.ip + BitVec.ofNat 16 k)) ∈ prefixBytes := by
  induction n generalizing s with
  | zero => simp [runItems]
  | succ n ih =>
    rw [Nat.forall_lt_succ_left]
    by_cases hp : s.busRead8 (phys s.sregs.cs s.ip) ∈ prefixBytes
    · simp only [runItems_prefix hp, ih, BitVec.add_zero, hp, true_and, add_ofNat_succ s.ip]
      rfl
    · obtain ⟨t, ht⟩ := runItems_of_not_prefix hp n
      simp [ht, hp]

theorem stepOutcome_eq_fault {r : Result} {f : Fault} : stepOutcome r = .fault f ↔ r = .fault f := by
  cases r <;> simp [stepOutcome]

theorem step_ne_refused (s : State) (r : Refusal) : step s ≠ .refused r := by
  cases hrun : s.runnable with
  | false => simp [step_of_not_runnable hrun]
  | true =>
    rw [step_eq_stepOutcome hrun]
    cases hloop : runItems 65536 s.begin with
    | next t => simp [stepOutcome]
    | fault f => simp [stepOutcome]
    | refused r' => exact absurd hloop (runItems_ne_refused _ _ _)

/-- Settles O9: 65536 turns read every offset of the code segment, from IP on. -/
theorem onlyPrefixesHang : Obligations.OnlyPrefixesHang := by
  unfold Obligations.OnlyPrefixesHang
  intro s
  refine ⟨step_ne_refused s, fun r _ => by cases r; rfl, ?_⟩
  cases hrun : s.runnable with
  | false => simp [step_of_not_runnable hrun, State.Hangs, hrun]
  | true =>
    rw [step_eq_stepOutcome hrun, stepOutcome_eq_fault, runItems_hangs_iff]
    refine ⟨fun h => ⟨hrun, fun offset => ?_⟩, fun h k _ => h.2 _⟩
    have hread := h (offset - s.ip).toNat (BitVec.isLt _)
    have hoffset : s.begin.ip + BitVec.ofNat 16 (offset - s.ip).toNat = offset := by
      rw [BitVec.ofNat_toNat, BitVec.setWidth_eq]
      exact add_sub_cancel s.ip offset
    exact hoffset ▸ hread

end Sys2Proof.Machine
end

section
/-! SUPPORT. The effective address as a number, and the segment with and without an override (spec/30_encoding.md R107,
spec/20_memory.md R75). Settles O23. -/

namespace Sys2Proof.Machine

/-- A sum and a signed byte, modulo 2^16. -/
theorem toNat_add_signExtend8 (w : Word) (d : Byte) :
    ((w + signExtend8 d).toNat : Int) = ((w.toNat : Int) + d.toInt) % 2 ^ 16 := by
  have hd : ((signExtend8 d).toNat : Int) = d.toInt % 2 ^ 16 := by
    simp [signExtend8, BitVec.signExtend, BitVec.toNat_ofInt]
    omega
  rw [BitVec.toNat_add]
  push_cast
  rw [hd]
  simp

theorem State.ea_of_baseSum {s : State} {b : RmBase} {n : Nat} (h : (s.regs.baseSum b).toNat = n % 2 ^ 16) (d8 : Byte)
    (d16 : Word) :
    (s.ea (.ind b)).toNat = n % 2 ^ 16 ∧ ((s.ea (.disp8 b d8)).toNat : Int) = ((n : Int) + d8.toInt) % 2 ^ 16 ∧
      (s.ea (.disp16 b d16)).toNat = (n + d16.toNat) % 2 ^ 16 := by
  refine ⟨h, ?_, ?_⟩
  · rw [State.ea, toNat_add_signExtend8, h]
    simp
  · rw [State.ea, BitVec.toNat_add, h]
    simp

theorem State.memSeg_of_defaultSeg {s : State} {m : MemOp} {q : Sreg} (h : MemOp.defaultSeg m = q) :
    (s.segOverride = none → s.memSeg m = s.sr q) ∧ ∀ p, s.segOverride = some p → s.memSeg m = s.sr p := by
  subst h
  exact ⟨fun ho => by simp [State.memSeg, State.dataSeg, ho], fun p ho => by simp [State.memSeg, State.dataSeg, ho]⟩

/-- Settles O23: the row of the base sum and the default segment, then the displacement and the override. -/
theorem effectiveAddress : Obligations.EffectiveAddress := by
  unfold Obligations.EffectiveAddress
  intro s d8 d16
  refine ⟨fun row hrow => ?_, rfl, State.memSeg_of_defaultSeg rfl⟩
  have hsum : (s.regs.baseSum row.1).toNat = row.2.1 % 2 ^ 16 := by
    fin_cases hrow <;> simp [Regs.baseSum, State.r16, Regs.get16] <;> omega
  have hseg : RmBase.defaultSeg row.1 = row.2.2 := by
    fin_cases hrow <;> rfl
  obtain ⟨hind, hdisp8, hdisp16⟩ := State.ea_of_baseSum hsum d8 d16
  refine ⟨hind, hdisp8, hdisp16, fun m hm => State.memSeg_of_defaultSeg ?_⟩
  fin_cases hm <;> exact hseg

end Sys2Proof.Machine
end

section
/-! SUPPORT. The data movement instructions (spec/40_data_movement.md): what MOV, XCHG, LEA, PUSH, POP, LDS and LES write,
and that they write nothing else. Settles O39 to O46 and O4. -/

namespace Sys2Proof.Machine

open Sys2Proof.Stated

/-! ### Frames and operand writes -/

/-- What data movement leaves alone, whatever it does to the registers, the segment registers and memory (R150). -/
theorem kept_of_data (s : State) (g : Regs) (q : SegRegs) (m : List Host.Cell) :
    let t := { s with regs := g, sregs := q, mem := m }
    t.flags = s.flags ∧ t.ip = s.ip ∧ QuietKept s t :=
  ⟨rfl, rfl, rfl, rfl, rfl, rfl, rfl, rfl, rfl, rfl, rfl⟩

/-- The same where the segment registers are left alone too. -/
theorem ordinaryKept_of_data (s : State) (g : Regs) (m : List Host.Cell) :
    let t := { s with regs := g, mem := m }
    t.flags = s.flags ∧ OrdinaryKept s t :=
  ⟨rfl, rfl, fun _ => rfl, rfl, rfl, rfl, rfl, rfl, rfl, rfl, rfl, rfl⟩

theorem completes_writeRm8 {i : Instr} {s : State} (h : Memory.wf s.mem = true) {rm : Rm Reg8} {v : Byte}
    (hx : exec i s = .next (s.writeRm8 rm v)) :
    Completes i s fun t => Writes8 s t rm v ∧ t.flags = s.flags ∧ OrdinaryKept s t :=
  ⟨_, hx, writes8_setFlags_writeRm8 h s.flags rm v, by simp, ordinaryKept_setFlags_writeRm8 s s.flags rm v⟩

theorem completes_writeRm16 {i : Instr} {s : State} (h : Memory.wf s.mem = true) {rm : Rm Reg16} {v : Word}
    (hx : exec i s = .next (s.writeRm16 rm v)) :
    Completes i s fun t => Writes16 s t rm v ∧ t.flags = s.flags ∧ OrdinaryKept s t :=
  ⟨_, hx, writes16_setFlags_writeRm16 h s.flags rm v, by simp, ordinaryKept_setFlags_writeRm16 s s.flags rm v⟩

theorem State.sr_setSr_same (s : State) (q : Sreg) (v : Word) : (s.setSr q v).sr q = v := by
  simp

theorem State.sr_setSr_other (s : State) {p q : Sreg} (v : Word) (h : p ≠ q) : (s.setSr q v).sr p = s.sr p := by
  simp [h]

/-! ### MOV -/

/-- Settles O39: one read, one write. -/
theorem movCopiesSource : Obligations.MovCopiesSource := by
  unfold Obligations.MovCopiesSource
  intro s h
  refine ⟨fun rm r => ?_, fun rm r => ?_, fun r rm => ?_, fun r rm => ?_, fun rm ib => ?_, fun rm iw => ?_,
    fun r ib => ?_, fun r iw => ?_, fun rm q => ?_, fun q rm => ?_⟩
  · exact completes_writeRm8 h rfl
  · exact completes_writeRm16 h rfl
  · exact completes_writeRm8 h rfl
  · exact completes_writeRm16 h rfl
  · exact completes_writeRm8 h rfl
  · exact completes_writeRm16 h rfl
  · exact completes_writeRm8 h rfl
  · exact completes_writeRm16 h rfl
  · exact completes_writeRm16 h rfl
  · exact ⟨_, rfl, s.sr_setSr_same q _, fun q' hq => s.sr_setSr_other _ hq, fun _ => rfl, fun _ => rfl,
      kept_of_data s _ _ _⟩

/-- Settles O40: a direct offset is the direct form of a memory operand. -/
theorem movDirectOffset : Obligations.MovDirectOffset := by
  unfold Obligations.MovDirectOffset
  intro s off h seg
  have hseg : s.dataSeg .ds = seg := by
    cases ho : s.segOverride <;> simp [State.dataSeg, seg, ho]
  rw [← hseg]
  obtain ⟨-, hload, -⟩ := wordAccess s (s.dataSeg .ds) off h
  refine ⟨completes_writeRm8 h rfl, ?_, ?_, ?_⟩
  · obtain ⟨t, ht, ⟨hax, hothers, hmem⟩, hkept⟩ := completes_writeRm16 (i := .movAxMoffs off) h (rm := .reg .ax) rfl
    exact ⟨t, ht, hax ▸ hload, hothers, hmem, hkept⟩
  · obtain ⟨t, ht, ⟨hregs, hstores⟩, hkept⟩ := completes_writeRm8 (i := .movMoffsAl off) h (rm := .mem (.direct off)) rfl
    exact ⟨t, ht, hstores, hregs, hkept⟩
  · obtain ⟨t, ht, ⟨hregs, hstores⟩, hkept⟩ := completes_writeRm16 (i := .movMoffsAx off) h (rm := .mem (.direct off)) rfl
    exact ⟨t, ht, hstores, hregs, hkept⟩

/-! ### XCHG -/

/-- The state after an exchange of two byte registers (R158). -/
def State.swap8 (s : State) (p r : Reg8) : State := (s.setR8 p (s.r8 r)).setR8 r (s.r8 p)

/-- The state after an exchange of two word registers (R158, R159). -/
def State.swap16 (s : State) (p r : Reg16) : State := (s.setR16 p (s.r16 r)).setR16 r (s.r16 p)

theorem exec_xchgRm8R8_reg (p r : Reg8) (s : State) : exec (.xchgRm8R8 (.reg p) r) s = .next (s.swap8 p r) := rfl
theorem exec_xchgRm16R16_reg (p r : Reg16) (s : State) : exec (.xchgRm16R16 (.reg p) r) s = .next (s.swap16 p r) := rfl
theorem exec_xchgAxR16 (r : Reg16) (s : State) : exec (.xchgAxR16 r) s = .next (s.swap16 .ax r) := rfl

theorem State.r8_swap8 (s : State) (p r q : Reg8) :
    (s.swap8 p r).r8 q = if q = r then s.r8 p else if q = p then s.r8 r else s.r8 q := by
  simp [State.swap8]

theorem State.r16_swap16 (s : State) (p r q : Reg16) :
    (s.swap16 p r).r16 q = if q = r then s.r16 p else if q = p then s.r16 r else s.r16 q := by
  simp [State.swap16]

/-- No half is a half of a pointer or index register. -/
theorem Reg8.home_ne {q : Reg16} (hq : q ∈ [Reg16.sp, .bp, .si, .di]) (r : Reg8) : q ≠ Reg8.home r := by
  rintro rfl
  cases r <;> simp [Reg8.home] at hq

theorem State.r16_setR8_pointer (s : State) {q : Reg16} (hq : q ∈ [Reg16.sp, .bp, .si, .di]) (r : Reg8) (v : Byte) :
    (s.setR8 r v).r16 q = s.r16 q :=
  (State.r16_setR8 ..).trans (if_neg (Reg8.home_ne hq r))

theorem State.r16_swap8_pointer (s : State) {q : Reg16} (hq : q ∈ [Reg16.sp, .bp, .si, .di]) (p r : Reg8) :
    (s.swap8 p r).r16 q = s.r16 q :=
  (State.r16_setR8_pointer _ hq _ _).trans (State.r16_setR8_pointer _ hq _ _)

/-- The two registers hold each other's old value, the others their own; so too when the two are one. -/
theorem State.swap8_swaps (s : State) (p r : Reg8) :
    (s.swap8 p r).r8 p = s.r8 r ∧ (s.swap8 p r).r8 r = s.r8 p ∧
      ∀ q, q ≠ p → q ≠ r → (s.swap8 p r).r8 q = s.r8 q := by
  simp only [State.r8_swap8]
  refine ⟨?_, by simp, fun q hp hr => by simp [hp, hr]⟩
  by_cases hpr : p = r <;> simp [hpr]

theorem State.swap16_swaps (s : State) (p r : Reg16) :
    (s.swap16 p r).r16 p = s.r16 r ∧ (s.swap16 p r).r16 r = s.r16 p ∧ RegsKeptBut [p, r] s (s.swap16 p r) := by
  simp only [RegsKeptBut, State.r16_swap16]
  refine ⟨?_, by simp, fun q hq => ?_⟩
  · by_cases hpr : p = r <;> simp [hpr]
  · simp only [List.mem_cons, List.not_mem_nil, or_false, not_or] at hq
    obtain ⟨hp, hr⟩ := hq
    simp [hp, hr]

theorem completes_swap16 {i : Instr} {s : State} {p r : Reg16} (hx : exec i s = .next (s.swap16 p r)) :
    Completes i s fun t => t.r16 p = s.r16 r ∧ t.r16 r = s.r16 p ∧ RegsKeptBut [p, r] s t ∧ MemKept s t ∧
      t.flags = s.flags ∧ OrdinaryKept s t := by
  obtain ⟨hp, hr, hothers⟩ := s.swap16_swaps p r
  exact ⟨_, hx, hp, hr, hothers, fun _ => rfl, ordinaryKept_of_data s _ _⟩

/-- Settles O41: the registers are exchanged; a memory operand is stored before its register is loaded. -/
theorem xchgSwapsOperands : Obligations.XchgSwapsOperands := by
  unfold Obligations.XchgSwapsOperands
  intro s h
  refine ⟨fun p r => ?_, fun p r => ?_, fun m r => ?_, fun m r => ?_, fun r => ?_⟩
  · obtain ⟨hp, hr, hothers⟩ := s.swap8_swaps p r
    exact ⟨_, exec_xchgRm8R8_reg p r s, hp, hr, hothers, fun q hq => s.r16_swap8_pointer hq p r, fun _ => rfl,
      ordinaryKept_of_data s _ _⟩
  · exact completes_swap16 (exec_xchgRm16R16_reg p r s)
  · refine ⟨_, rfl, by simp, fun q hq => ?_, fun q hq => State.r16_setR8_pointer _ hq _ _,
      State.byteAt_writeRm8 h (.mem m) (s.r8 r), ordinaryKept_of_data s _ _⟩
    exact (State.r8_setR8 ..).trans (if_neg hq)
  · exact ⟨_, rfl, by simp, State.regsKeptBut_setR16 _ r _, State.byteAt_writeRm16 h (.mem m) (s.r16 r),
      ordinaryKept_of_data s _ _⟩
  · exact completes_swap16 (exec_xchgAxR16 r s)

/-- Equal halves and equal pointer and index registers, equal files. -/
theorem State.regs_eq_of_r8 {s t : State} (h8 : ∀ q, t.r8 q = s.r8 q)
    (h16 : ∀ q ∈ [Reg16.sp, .bp, .si, .di], t.r16 q = s.r16 q) : t.regs = s.regs := by
  obtain ⟨hax, hcx, hdx, hbx⟩ := s.r16_bytes
  obtain ⟨hax', hcx', hdx', hbx'⟩ := t.r16_bytes
  refine Regs.eq_of_get16 fun q => (?_ : t.r16 q = s.r16 q)
  cases q with
  | ax => rw [hax', hax, h8, h8]
  | cx => rw [hcx', hcx, h8, h8]
  | dx => rw [hdx', hdx, h8, h8]
  | bx => rw [hbx', hbx, h8, h8]
  | sp | bp | si | di => exact h16 _ (by simp)

/-- Where only the registers may have been written, equal registers make the states equal. -/
theorem State.eq_of_regs {s t : State} (h : t.regs = s.regs) (ht : t = { s with regs := t.regs }) : t = s := by
  rw [ht, h]

theorem State.swap8_swap8 (s : State) (p r : Reg8) : (s.swap8 p r).swap8 p r = s := by
  obtain ⟨hp, hr, hothers⟩ := s.swap8_swaps p r
  refine State.eq_of_regs (State.regs_eq_of_r8 (fun q => ?_) fun q hq => ?_) rfl
  · rw [State.r8_swap8, hp, hr]
    split_ifs with hqr hqp
    · rw [hqr]
    · rw [hqp]
    · exact hothers q hqp hqr
  · exact (State.r16_swap8_pointer _ hq p r).trans (State.r16_swap8_pointer _ hq p r)

theorem State.swap16_swap16 (s : State) (p r : Reg16) : (s.swap16 p r).swap16 p r = s := by
  obtain ⟨hp, hr, hothers⟩ := s.swap16_swaps p r
  refine State.eq_of_regs (Regs.eq_of_get16 fun q => (?_ : ((s.swap16 p r).swap16 p r).r16 q = s.r16 q)) rfl
  rw [State.r16_swap16, hp, hr]
  split_ifs with hqr hqp
  · rw [hqr]
  · rw [hqp]
  · exact hothers q (by simp [hqp, hqr])

/-! ### LEA, LDS, LES -/

/-- Settles O42: the effective address does not depend on the override. -/
theorem leaGivesEffectiveAddress : Obligations.LeaGivesEffectiveAddress := by
  unfold Obligations.LeaGivesEffectiveAddress
  intro r m s o
  have hea : (withOverride o s).ea m = s.ea m := State.ea_congr rfl m
  exact ⟨_, rfl, ⟨by simp [hea], State.regsKeptBut_setR16 _ r _, fun _ => rfl⟩,
    ordinaryKept_of_data (withOverride o s) _ _⟩

/-- The far pointer goes to the register and the segment register `q` (R169, R170). -/
theorem completes_loadFar {i : Instr} {s : State} {r : Reg16} {q : Sreg} {m : MemOp}
    (hx : exec i s = .next ((s.setR16 r (s.farOffset m)).setSr q (s.farSegment m))) :
    Completes i s fun t =>
      t.r16 r = s.memRead16 (s.memAddr m) ∧
      t.sr q = s.memRead16 (phys (s.memSeg m) (BitVec.ofNat 16 ((s.ea m).toNat + 2))) ∧
      RegsKeptBut [r] s t ∧ (∀ p, p ≠ q → t.sr p = s.sr p) ∧ MemKept s t ∧ t.flags = s.flags ∧ t.ip = s.ip ∧
      QuietKept s t := by
  have hoffset : BitVec.ofNat 16 ((s.ea m).toNat + 2) = s.ea m + 2 := by simp [BitVec.ofNat_add]
  rw [hoffset]
  refine ⟨_, hx, ?_, State.sr_setSr_same _ q _, s.regsKeptBut_setR16 r _, fun p hp => ?_, fun _ => rfl,
    kept_of_data s _ _ _⟩
  · exact (State.r16_setR16 ..).trans (if_pos rfl)
  · exact State.sr_setSr_other _ _ hp

/-- Settles O43: the two instructions differ in the segment register only. -/
theorem loadFarPointer : Obligations.LoadFarPointer := by
  unfold Obligations.LoadFarPointer
  intro r m s
  simp only [List.forall_mem_cons, List.not_mem_nil, false_implies, implies_true, and_true]
  exact ⟨completes_loadFar rfl, completes_loadFar rfl⟩

/-! ### PUSH -/

theorem State.r16_push16 (s : State) (v : Word) (q : Reg16) :
    (s.push16 v).r16 q = if q = .sp then s.r16 .sp - 2 else s.r16 q :=
  State.r16_setR16 ..

theorem State.r16_popped (s : State) (q : Reg16) : s.popped.r16 q = if q = .sp then s.r16 .sp + 2 else s.r16 q :=
  State.r16_setR16 ..

theorem pushes_push16 {s : State} (h : Memory.wf s.mem = true) (v : Word) : Pushes s (s.push16 v) v := by
  refine ⟨?_, s.regsKeptBut_setR16 .sp _, State.byteAt_push16 h v⟩
  rw [State.r16_push16, if_pos rfl]
  bv_omega

theorem completes_push16 {i : Instr} {s : State} (h : Memory.wf s.mem = true) {v : Word}
    (hx : exec i s = .next (s.push16 v)) :
    Completes i s fun t => Pushes s t v ∧ t.flags = s.flags ∧ OrdinaryKept s t :=
  ⟨_, hx, pushes_push16 h v, ordinaryKept_of_data s _ _⟩

/-- Settles O44: the source is read in the state before the push. -/
theorem pushStoresBelowStackTop : Obligations.PushStoresBelowStackTop := by
  unfold Obligations.PushStoresBelowStackTop
  intro s h
  refine ⟨fun r => completes_push16 h rfl, fun rm => completes_push16 h rfl, ?_⟩
  simp only [List.forall_mem_cons, List.not_mem_nil, false_implies, implies_true, and_true]
  exact ⟨completes_push16 h rfl, completes_push16 h rfl, completes_push16 h rfl, completes_push16 h rfl⟩

/-! ### POP -/

theorem spRaised_popped (s : State) : SpRaised s s.popped 2 := by
  rw [SpRaised, State.r16_popped, if_pos rfl]
  rfl

/-- No base sum uses SP, so the pop does not move a memory operand (R107, R168). -/
theorem Regs.baseSum_set16_sp (g : Regs) (v : Word) (b : RmBase) : (g.set16 .sp v).baseSum b = g.baseSum b := by
  cases b <;> rfl

theorem State.ea_popped (s : State) (m : MemOp) : s.popped.ea m = s.ea m := by
  cases m <;> simp [State.ea, State.popped, Regs.baseSum_set16_sp]

theorem State.memAddr_popped (s : State) (m : MemOp) : s.popped.memAddr m = s.memAddr m := by
  rw [State.memAddr, State.ea_popped]
  rfl

theorem completes_popReg {i : Instr} {s : State} {r : Reg16} (hx : exec i s = .next (s.popped.setR16 r s.stackTop)) :
    Completes i s fun t => t.r16 r = topWord s ∧ (r ≠ .sp → SpRaised s t 2) ∧ RegsKeptBut [r, .sp] s t ∧ MemKept s t ∧
      t.flags = s.flags ∧ OrdinaryKept s t := by
  refine ⟨_, hx, ?_, fun hr => ?_, fun q hq => ?_, fun _ => rfl, ordinaryKept_of_data s _ _⟩
  · exact (State.r16_setR16 ..).trans (if_pos rfl)
  · rw [SpRaised, State.r16_setR16, if_neg hr.symm]
    exact spRaised_popped s
  · simp only [List.mem_cons, List.not_mem_nil, or_false, not_or] at hq
    obtain ⟨hr, hsp⟩ := hq
    rw [State.r16_setR16, if_neg hr, State.r16_popped, if_neg hsp]

theorem completes_popSr {i : Instr} {s : State} {q : Sreg} (hx : exec i s = .next (s.popped.setSr q s.stackTop)) :
    Completes i s fun t => t.sr q = topWord s ∧ (∀ p, p ≠ q → t.sr p = s.sr p) ∧ SpRaised s t 2 ∧
      RegsKeptBut [.sp] s t ∧ MemKept s t ∧ t.flags = s.flags ∧ t.ip = s.ip ∧ QuietKept s t :=
  ⟨_, hx, State.sr_setSr_same _ q _, fun _ hp => State.sr_setSr_other _ _ hp, spRaised_popped s,
    s.regsKeptBut_setR16 .sp _, fun _ => rfl, kept_of_data s _ _ _⟩

/-- Settles O45: the word is read at the old SS:SP, and the destination is written last. -/
theorem popTakesStackTop : Obligations.PopTakesStackTop := by
  unfold Obligations.PopTakesStackTop
  intro s h
  refine ⟨fun r => completes_popReg rfl, fun r => completes_popReg rfl, fun m => ?_, ?_⟩
  · refine ⟨_, rfl, ?_, spRaised_popped s, s.regsKeptBut_setR16 .sp _, ordinaryKept_of_data s _ _⟩
    rw [← s.memAddr_popped m]
    exact State.byteAt_writeRm16 (s := s.popped) h (.mem m) s.stackTop
  · simp only [List.forall_mem_cons, List.not_mem_nil, false_implies, implies_true, and_true]
    exact ⟨completes_popSr rfl, completes_popSr rfl, completes_popSr rfl⟩

/-! ### Round trips -/

/-- The word pushed is the word on top, where the bus stores and reads both its bytes. -/
theorem State.stackTop_push16 {s : State} (h : Memory.wf s.mem = true) (v : Word)
    (hbus : ∀ a ∈ [phys (s.sr .ss) (s.r16 .sp - 2), phys (s.sr .ss) (s.r16 .sp - 2) + 1],
      isReadable s.areas a = true ∧ isWritable s.areas a = true) : (s.push16 v).stackTop = v := by
  simp only [List.forall_mem_cons, List.not_mem_nil, false_implies, implies_true, and_true] at hbus
  obtain ⟨⟨hread, hwrite⟩, hread', hwrite'⟩ := hbus
  have hlow : (s.push16 v).busRead8 (phys (s.sr .ss) (s.r16 .sp - 2)) = lowByte v := by
    rw [State.busRead8, State.push16_areas, if_pos hread, State.byteAt_push16 h]
    exact if_pos ⟨rfl, hwrite⟩
  have hhigh : (s.push16 v).busRead8 (phys (s.sr .ss) (s.r16 .sp - 2) + 1) = highByte v := by
    rw [State.busRead8, State.push16_areas, if_pos hread', State.byteAt_push16 h]
    have hne (a : Addr) : a + 1 ≠ a := by bv_omega
    exact (if_neg fun hsame => hne _ hsame.1).trans (if_pos ⟨rfl, hwrite'⟩)
  calc (s.push16 v).stackTop
    _ = wordOf (lowByte v) (highByte v) := congrArg₂ wordOf hlow hhigh
    _ = v := wordOf_low_high v

/-- Settles O46: POP finds the word that PUSH stored and raises SP to where it was; an exchange is its own inverse. -/
theorem roundTrips : Obligations.RoundTrips := by
  unfold Obligations.RoundTrips
  refine ⟨fun r s h hbus => ⟨_, _, rfl, rfl, fun q => ?_⟩, fun p r s => ?_, fun p r s => ?_, fun r s => ?_⟩
  · rw [State.r16_setR16, State.stackTop_push16 h _ hbus]
    simp only [State.r16_popped, State.r16_push16, if_true]
    split_ifs with hr hsp
    · rw [hr]
    · rw [hsp]
      exact BitVec.sub_add_cancel _ _
    · rfl
  · exact ⟨_, exec_xchgRm8R8_reg p r s, by rw [exec_xchgRm8R8_reg, State.swap8_swap8]⟩
  · exact ⟨_, exec_xchgRm16R16_reg p r s, by rw [exec_xchgRm16R16_reg, State.swap16_swap16]⟩
  · exact ⟨_, exec_xchgAxR16 r s, by rw [exec_xchgAxR16, State.swap16_swap16]⟩

/-! ### Bytes of the spec's examples -/

/-- Settles O4: the bytes are the encodings. -/
theorem decodedBytes : Obligations.DecodedBytes := by
  unfold Obligations.DecodedBytes
  refine ⟨?_, ?_, ?_, ?_, ?_, ?_, ?_, ?_⟩
  · exact decodeOfEncode (.jmpFar 0x0000 0xF000) [] rfl
  · exact decodeOfEncode (.movR16Iw .ax 0x1234) [] rfl
  · exact decodeOfEncode (.movMoffsAx 0x2000) [] rfl
  · exact decodeOfEncode (.xorR16Rm16 .ax (.reg .ax)) [] rfl
  · exact decodeOfEncode (.jne 0x02) [] rfl
  · exact decodeOfEncode (.movRm16Iw (.mem (.direct 0x2000)) 0x1234) [] rfl
  · exact decodeOfEncode (.leaR16M .ax (.disp8 .bx 0x05)) [] rfl
  · exact decodeOfEncode (.divRm8 (.reg .bl)) [] rfl

end Sys2Proof.Machine
end

section
/-! SUPPORT. The two-operand ALU instructions in their ten forms, NEG, multiplication and division
(spec/41_arithmetic.md R200 to R205 and R208 to R213). Settles O20, O28, O29, O30, O33, O34 and O35. -/

namespace Sys2Proof.Machine

open Sys2Proof.Stated

/-! ### The flag rules of R42 to R44 -/

theorem addFlags_rule {w : Nat} (a b : BitVec w) (c : Bool) (f : Flags) :
    AddRule a b c f (addFlags a b c f).1 (addFlags a b c f).2 := by
  obtain ⟨hCF, hOF, hAF⟩ := addFlags_arith a b c f
  exact ⟨addFlags_result a b c f, hCF, hOF, hAF, setSZP_resultFlags _ _, rfl, rfl, rfl⟩

theorem subFlags_rule {w : Nat} (a b : BitVec w) (c : Bool) (f : Flags) :
    SubRule a b c f (subFlags a b c f).1 (subFlags a b c f).2 := by
  obtain ⟨hCF, hOF, hAF⟩ := subFlags_arith a b c f
  exact ⟨subFlags_result a b c f, hCF, hOF, hAF, setSZP_resultFlags _ _, rfl, rfl, rfl⟩

theorem logicFlags_rule {w : Nat} (r : BitVec w) (af : Bool) (f : Flags) : LogicRule r f (logicFlags r af f) :=
  ⟨rfl, rfl, setSZP_resultFlags _ _, rfl, rfl, rfl⟩

/-- Each operation computes by its rule (R201 to R205, spec/42_logic.md R250 to R252). -/
theorem Alu.compute_rule {w : Nat} (k : Alu) (a b : BitVec w) (af : Bool) (f : Flags) :
    AluRule k a b f (k.compute a b af f).1 (k.compute a b af f).2 := by
  cases k with
  | add => exact addFlags_rule a b false f
  | adc => exact addFlags_rule a b f.CF f
  | sub => exact subFlags_rule a b false f
  | sbb => exact subFlags_rule a b f.CF f
  | cmp => exact subFlags_rule a b false f
  | and => exact ⟨BitVec.toNat_and a b, logicFlags_rule (a &&& b) af f⟩
  | or => exact ⟨BitVec.toNat_or a b, logicFlags_rule (a ||| b) af f⟩
  | xor => exact ⟨BitVec.toNat_xor a b, logicFlags_rule (a ^^^ b) af f⟩

/-! ### The common operation of R200 -/

theorem State.writeRm8_drew (s : State) (n : Nat) (rm : Rm Reg8) (v : Byte) :
    (s.drew n).writeRm8 rm v = (s.writeRm8 rm v).drew n := by
  cases rm <;> rfl

theorem State.writeRm16_drew (s : State) (n : Nat) (rm : Rm Reg16) (v : Word) :
    (s.drew n).writeRm16 rm v = (s.writeRm16 rm v).drew n := by
  cases rm <;> rfl

theorem writes8_drew {s t : State} {rm : Rm Reg8} {v : Byte} (h : Writes8 s t rm v) (n : Nat) :
    Writes8 s (t.drew n) rm v := by
  cases rm <;> exact h

theorem writes16_drew {s t : State} {rm : Rm Reg16} {v : Word} (h : Writes16 s t rm v) (n : Nat) :
    Writes16 s (t.drew n) rm v := by
  cases rm <;> exact h

/-- What an instruction leaves alone that sets FLAGS and the general registers and draws free values. -/
theorem ordinaryKept_of_flags (s : State) (f : Flags) (n : Nat) (g : Regs) :
    OrdinaryKept s { s with flags := f, draws := n, regs := g } :=
  ⟨rfl, fun _ => rfl, rfl, rfl, rfl, rfl, rfl, rfl, rfl, rfl, rfl⟩

/-- Every operation but CMP writes its destination. -/
theorem alu8_of_ne_cmp {k : Alu} (hk : k ≠ .cmp) (dst : Rm Reg8) (b : Byte) (s : State) :
    let rf := k.compute (s.readRm8 dst) b (s.free 0) s.flags
    alu8 k dst b s = ((s.setFlags rf.2).writeRm8 dst rf.1).drew k.drawn := by
  cases k with
  | cmp => exact absurd rfl hk
  | _ => exact State.writeRm8_drew ..

theorem alu16_of_ne_cmp {k : Alu} (hk : k ≠ .cmp) (dst : Rm Reg16) (b : Word) (s : State) :
    let rf := k.compute (s.readRm16 dst) b (s.free 0) s.flags
    alu16 k dst b s = ((s.setFlags rf.2).writeRm16 dst rf.1).drew k.drawn := by
  cases k with
  | cmp => exact absurd rfl hk
  | _ => exact State.writeRm16_drew ..

theorem alu8_effect {s : State} (h : Memory.wf s.mem = true) (k : Alu) (dst : Rm Reg8) (b : Byte) :
    AluEffect8 k dst b s (alu8 k dst b s) := by
  have hrule := k.compute_rule (s.readRm8 dst) b (s.free 0) s.flags
  by_cases hk : k = .cmp
  · subst hk
    exact ⟨_, hrule, ordinaryKept_of_flags s _ _ _, fun _ => rfl, fun _ => rfl⟩
  · rw [alu8_of_ne_cmp hk]
    refine ⟨_, by simpa using hrule, ordinaryKept_setFlags_writeRm8 s _ dst _, ?_⟩
    rw [if_neg hk]
    exact writes8_drew (writes8_setFlags_writeRm8 h _ dst _) _

theorem alu16_effect {s : State} (h : Memory.wf s.mem = true) (k : Alu) (dst : Rm Reg16) (b : Word) :
    AluEffect16 k dst b s (alu16 k dst b s) := by
  have hrule := k.compute_rule (s.readRm16 dst) b (s.free 0) s.flags
  by_cases hk : k = .cmp
  · subst hk
    exact ⟨_, hrule, ordinaryKept_of_flags s _ _ _, fun _ => rfl, fun _ => rfl⟩
  · rw [alu16_of_ne_cmp hk]
    refine ⟨_, by simpa using hrule, ordinaryKept_setFlags_writeRm16 s _ dst _, ?_⟩
    rw [if_neg hk]
    exact writes16_drew (writes16_setFlags_writeRm16 h _ dst _) _

/-- Settles O28: the five forms are the common operation on their destination and source. -/
theorem aluByteForms : Obligations.AluByteForms := by
  unfold Obligations.AluByteForms
  intro k s h
  refine ⟨fun rm r => ⟨_, ?_, alu8_effect h k rm (s.r8 r)⟩,
    fun r rm => ⟨_, ?_, alu8_effect h k (.reg r) (s.readRm8 rm)⟩,
    fun ib => ⟨_, ?_, alu8_effect h k (.reg .al) ib⟩, fun rm ib => ⟨_, ?_, alu8_effect h k rm ib⟩,
    fun rm ib => ⟨_, ?_, alu8_effect h k rm ib⟩⟩
  all_goals cases k <;> rfl

/-- Settles O29: the same for words, the byte of `83 /n` sign-extended. -/
theorem aluWordForms : Obligations.AluWordForms := by
  unfold Obligations.AluWordForms
  intro k s h
  refine ⟨fun rm r => ⟨_, ?_, alu16_effect h k rm (s.r16 r)⟩,
    fun r rm => ⟨_, ?_, alu16_effect h k (.reg r) (s.readRm16 rm)⟩,
    fun iw => ⟨_, ?_, alu16_effect h k (.reg .ax) iw⟩, fun rm iw => ⟨_, ?_, alu16_effect h k rm iw⟩,
    fun rm ib => ⟨_, ?_, alu16_effect h k rm (signExtend8 ib)⟩⟩
  all_goals cases k <;> rfl

/-! ### Encodings -/

theorem decode_of_encode {i : Instr} {bs rest : List Byte} (hw : i.wf = true) (he : encode i ++ rest = bs) :
    decode bs = .ok (i, rest) :=
  he ▸ decodeOfEncode i rest hw

theorem encodeWord_append (b c : Byte) : encodeWord (c ++ b) = [b, c] :=
  congrArg₂ (fun x y => [x, y]) (lowByte_wordOf b c) (highByte_wordOf b c)

/-- Settles O30: an instruction decodes from its encoding, and the encodings of the ten forms are the table of R200. -/
theorem aluEncodings : Obligations.AluEncodings := by
  unfold Obligations.AluEncodings
  intro k rest
  refine ⟨fun rm r hw => ⟨?_, ?_⟩, fun rm r hw => ⟨?_, ?_⟩, fun b c => ⟨?_, ?_⟩, fun rm b hw => ⟨?_, ?_⟩,
    fun rm b c hw => ⟨?_, ?_⟩⟩
  · exact decode_of_encode (by cases k <;> exact hw) (by cases k <;> rfl)
  · exact decode_of_encode (by cases k <;> exact hw) (by cases k <;> rfl)
  · exact decode_of_encode (by cases k <;> exact hw) (by cases k <;> rfl)
  · exact decode_of_encode (by cases k <;> exact hw) (by cases k <;> rfl)
  · exact decode_of_encode (by cases k <;> rfl) (by cases k <;> rfl)
  · have hbytes : encode (aluAxIw k (c ++ b)) = (aluBase k + 5) :: encodeWord (c ++ b) := by cases k <;> rfl
    exact decode_of_encode (by cases k <;> rfl) (by simp [hbytes, encodeWord_append])
  · have hbytes : encode (aluRm8Ib k rm b) = 0x80 :: (encodeRm8 (aluSub k) rm ++ [b]) := by cases k <;> rfl
    exact decode_of_encode (by cases k <;> exact hw) (by simp [hbytes])
  · have hbytes : encode (aluRm8IbAlt k rm b) = 0x82 :: (encodeRm8 (aluSub k) rm ++ [b]) := by cases k <;> rfl
    exact decode_of_encode (by cases k <;> exact hw) (by simp [hbytes])
  · have hbytes : encode (aluRm16Iw k rm (c ++ b)) = 0x81 :: (encodeRm16 (aluSub k) rm ++ encodeWord (c ++ b)) := by
      cases k <;> rfl
    exact decode_of_encode (by cases k <;> exact hw) (by simp [hbytes, encodeWord_append])
  · have hbytes : encode (aluRm16Ib k rm b) = 0x83 :: (encodeRm16 (aluSub k) rm ++ [b]) := by cases k <;> rfl
    exact decode_of_encode (by cases k <;> exact hw) (by simp [hbytes])

/-! ### NEG -/

/-- Of all numbers only the most negative has no negative of its width (R208). -/
theorem neg_toInt_unrepresentable_iff {w : Nat} (hw : 0 < w) (x : BitVec w) :
    ¬ (-(2 ^ (w - 1) : Int) ≤ -x.toInt ∧ -x.toInt < 2 ^ (w - 1)) ↔ x.toNat = 2 ^ (w - 1) := by
  obtain ⟨v, rfl⟩ : ∃ v, w = v + 1 := ⟨w - 1, by omega⟩
  have hx := x.isLt
  have hcast : ((2 ^ v : Nat) : Int) = 2 ^ v := by push_cast; rfl
  rw [pow_succ] at hx
  rw [BitVec.toInt_eq_toNat_cond, Nat.add_sub_cancel, pow_succ]
  split <;> omega

/-- What CF, OF and AF mean after a subtraction from 0 (R208). -/
theorem subFlags_zero {w : Nat} (hw : 4 < w) (x : BitVec w) (f : Flags) :
    (subFlags 0 x false f).2.CF = decide (x.toNat ≠ 0) ∧
    (subFlags 0 x false f).2.OF = decide (x.toNat = 2 ^ (w - 1)) ∧
    (subFlags 0 x false f).2.AF = decide (x.toNat % 16 ≠ 0) := by
  obtain ⟨hCF, -, -⟩ := subFlags_arith 0 x false f
  have hzero : (0 : BitVec w).toNat = 0 := BitVec.toNat_zero
  refine ⟨?_, ?_, ?_⟩
  · rw [hCF, decide_eq_decide, hzero, Bool.toNat_false]
    omega
  · rw [subFlags_OF 0 x false f (by omega), decide_eq_decide, ← neg_toInt_unrepresentable_iff (by omega)]
    simp
  · rw [subFlags_AF 0 x false f hw, decide_eq_decide]
    rw [hzero, Bool.toNat_false]
    omega

/-- Settles O33: one read, the subtraction from 0, one write. -/
theorem negSubtractsFromZero : Obligations.NegSubtractsFromZero := by
  unfold Obligations.NegSubtractsFromZero
  intro s h
  refine ⟨fun rm => ⟨neg8 rm s, rfl, (subFlags 0 (s.readRm8 rm) false s.flags).1, ?_⟩,
    fun rm => ⟨neg16 rm s, rfl, (subFlags 0 (s.readRm16 rm) false s.flags).1, ?_⟩⟩
  · have hflags : (neg8 rm s).flags = (subFlags 0 (s.readRm8 rm) false s.flags).2 := State.writeRm8_flags ..
    rw [hflags]
    exact ⟨subFlags_rule .., writes8_setFlags_writeRm8 h _ rm _, ordinaryKept_setFlags_writeRm8 s _ rm _,
      subFlags_zero (by decide) ..⟩
  · have hflags : (neg16 rm s).flags = (subFlags 0 (s.readRm16 rm) false s.flags).2 := State.writeRm16_flags ..
    rw [hflags]
    exact ⟨subFlags_rule .., writes16_setFlags_writeRm16 h _ rm _, ordinaryKept_setFlags_writeRm16 s _ rm _,
      subFlags_zero (by decide) ..⟩

/-! ### Products -/

theorem toNat_mul_setWidth {w : Nat} (x y : BitVec w) :
    (x.setWidth (w + w) * y.setWidth (w + w)).toNat = x.toNat * y.toNat := by
  have hlt : x.toNat * y.toNat < 2 ^ (w + w) := by
    rw [pow_add]
    exact Nat.mul_lt_mul'' x.isLt y.isLt
  have hwidth (z : BitVec w) : (z.setWidth (w + w)).toNat = z.toNat := BitVec.toNat_setWidth_of_le (Nat.le_add_left w w)
  rw [BitVec.toNat_mul_of_lt (by rwa [hwidth, hwidth]), hwidth, hwidth]

theorem toInt_mul_signExtend {w : Nat} (hw : 0 < w) (x y : BitVec w) :
    (x.signExtend (w + w) * y.signExtend (w + w)).toInt = x.toInt * y.toInt := by
  obtain ⟨v, rfl⟩ : ∃ v, w = v + 1 := ⟨w - 1, by omega⟩
  have hwidth : (v + 1) * 2 - 2 = v + v := by omega
  have hlow : -2 ^ (v + v) ≤ x.toInt * y.toInt := hwidth ▸ BitVec.le_toInt_mul_toInt
  have hhigh : x.toInt * y.toInt ≤ 2 ^ (v + v) := hwidth ▸ BitVec.toInt_mul_toInt_le
  have hpow : (2 : Int) ^ (v + 1 + (v + 1)) = 4 * 2 ^ (v + v) := by ring
  have hpos : (0 : Int) < 2 ^ (v + v) := by positivity
  rw [BitVec.toInt_mul, BitVec.toInt_signExtend_of_le (by omega), BitVec.toInt_signExtend_of_le (by omega)]
  apply Int.bmod_eq_of_le <;> push_cast <;> omega

/-- The upper half of a product of two numbers is 0 unless the product has more than their width (R209). -/
theorem upperHalf_ne_zero_iff {w : Nat} (p : BitVec (w + w)) : p.extractLsb' w w ≠ 0 ↔ 2 ^ w ≤ p.toNat := by
  have hp := p.isLt
  rw [pow_add] at hp
  rw [ne_eq, ← BitVec.toNat_inj, BitVec.extractLsb'_toNat, Nat.shiftRight_eq_div_pow,
    Nat.mod_eq_of_lt (Nat.div_lt_of_lt_mul hp)]
  simp

/-- A product is the sign extension of its lower half just when the half has its value (R210). -/
theorem ne_signExtend_lowerHalf_iff {w : Nat} (p : BitVec (w + w)) :
    p ≠ (p.extractLsb' 0 w).signExtend (w + w) ↔ p.toInt ≠ (p.extractLsb' 0 w).toInt := by
  rw [ne_eq, ← BitVec.toInt_inj, BitVec.toInt_signExtend_of_le (Nat.le_add_left w w)]

/-- DX:AX as a number. -/
theorem toNat_append_word (high low : Word) : (high ++ low).toNat = high.toNat * 65536 + low.toNat := by
  rw [BitVec.toNat_append, ← Nat.shiftLeft_add_eq_or_of_lt low.isLt, Nat.shiftLeft_eq]

theorem append_halves (p : BitVec 32) : p.extractLsb' 16 16 ++ p.extractLsb' 0 16 = p := by
  have hjoin : p.extractLsb' 16 16 ++ p.extractLsb' 0 16 = p.extractLsb' 0 (16 + 16) :=
    BitVec.extractLsb'_append_extractLsb'_eq_extractLsb' rfl
  rw [hjoin]
  exact BitVec.extractLsb'_eq_self

theorem regsKeptBut_setR16_of_mem {rs : List Reg16} {s t : State} (h : RegsKeptBut rs s t) {r : Reg16} (hr : r ∈ rs)
    (v : Word) : RegsKeptBut rs s (t.setR16 r v) := by
  intro q hq
  have hne : q ≠ r := fun heq => hq (heq ▸ hr)
  exact (State.r16_setR16 ..).trans ((if_neg hne).trans (h q hq))

theorem regsKeptBut_setR8_of_mem {rs : List Reg16} {s t : State} (h : RegsKeptBut rs s t) {r : Reg8}
    (hr : Reg8.home r ∈ rs) (v : Byte) : RegsKeptBut rs s (t.setR8 r v) := by
  intro q hq
  have hne : q ≠ Reg8.home r := fun heq => hq (heq ▸ hr)
  exact (State.r16_setR8 ..).trans ((if_neg hne).trans (h q hq))

/-- What multiplication and division leave alone, where `rs` are the registers they write. -/
def ArithmeticKept (rs : List Reg16) (s t : State) : Prop :=
  ControlKept s.flags t.flags ∧ RegsKeptBut rs s t ∧ MemKept s t ∧ OrdinaryKept s t

/-- The state after a multiplication, before the product is written. -/
def State.multiplied (s : State) (carry : Bool) : State := (s.setFlags (mulFlags carry s.free s.flags)).drew 4

theorem completes_product8 {i : Instr} {s : State} {carry : Bool} {p : Word}
    (hx : exec i s = .next ((s.multiplied carry).setR16 .ax p)) :
    Completes i s fun t => t.r16 .ax = p ∧ t.r8 .al = lowByte p ∧ t.flags.CF = carry ∧ t.flags.OF = t.flags.CF ∧
      ArithmeticKept [.ax] s t :=
  ⟨_, hx, rfl, rfl, rfl, rfl, ⟨rfl, rfl, rfl⟩, s.regsKeptBut_setR16 .ax p, fun _ => rfl, ordinaryKept_of_flags s _ _ _⟩

theorem completes_product16 {i : Instr} {s : State} {carry : Bool} {p : BitVec 32}
    (hx : exec i s = .next ((s.multiplied carry).setDxAx p)) :
    Completes i s fun t => t.r16 .dx ++ t.r16 .ax = p ∧ t.r16 .ax = p.extractLsb' 0 16 ∧ t.flags.CF = carry ∧
      t.flags.OF = t.flags.CF ∧ ArithmeticKept [.ax, .dx] s t := by
  have hregs : RegsKeptBut [.ax, .dx] s (s.setDxAx p) :=
    regsKeptBut_setR16_of_mem (regsKeptBut_setR16_of_mem (fun _ _ => rfl) (by decide) _) (by decide) _
  exact ⟨_, hx, append_halves p, rfl, rfl, rfl, ⟨rfl, rfl, rfl⟩, hregs, fun _ => rfl, ordinaryKept_of_flags s _ _ _⟩

/-- Settles O34: the product of the two extended operands is exact, and the carry looks at its upper half. -/
theorem multiplyExactProduct : Obligations.MultiplyExactProduct := by
  unfold Obligations.MultiplyExactProduct
  intro s
  refine ⟨fun rm => ?_, fun rm => ?_, fun rm => ?_, fun rm => ?_⟩
  · have hp := toNat_mul_setWidth (s.r8 .al) (s.readRm8 rm)
    obtain ⟨t, ht, hax, -, hCF, hrest⟩ := completes_product8 (i := .mulRm8 rm) (s := s) rfl
    refine ⟨t, ht, hax ▸ hp, ?_, hrest⟩
    rw [hCF, decide_eq_decide, ← hp]
    exact upperHalf_ne_zero_iff (w := 8) _
  · have hp := toNat_mul_setWidth (s.r16 .ax) (s.readRm16 rm)
    obtain ⟨t, ht, hdxax, -, hCF, hrest⟩ := completes_product16 (i := .mulRm16 rm) (s := s) rfl
    refine ⟨t, ht, ?_, ?_, hrest⟩
    · rw [← toNat_append_word, hdxax]
      exact hp
    · rw [hCF, decide_eq_decide, ← hp]
      exact upperHalf_ne_zero_iff (w := 16) _
  · have hp := toInt_mul_signExtend (by decide) (s.r8 .al) (s.readRm8 rm)
    obtain ⟨t, ht, hax, hal, hCF, hrest⟩ := completes_product8 (i := .imulRm8 rm) (s := s) rfl
    refine ⟨t, ht, hax ▸ hp, ?_, hrest⟩
    rw [hCF, hal, decide_eq_decide, ← hp]
    exact ne_signExtend_lowerHalf_iff (w := 8) _
  · have hp := toInt_mul_signExtend (by decide) (s.r16 .ax) (s.readRm16 rm)
    obtain ⟨t, ht, hdxax, hax, hCF, hrest⟩ := completes_product16 (i := .imulRm16 rm) (s := s) rfl
    refine ⟨t, ht, hdxax ▸ hp, ?_, hrest⟩
    rw [hCF, hax, decide_eq_decide, ← hp]
    exact ne_signExtend_lowerHalf_iff (w := 16) _

/-! ### Quotients and remainders -/

theorem quotient_remainder {w : Nat} (n : Nat) {d : BitVec w} (hd : d.toNat ≠ 0) (hq : n / d.toNat < 2 ^ w) :
    n = (BitVec.ofNat w (n / d.toNat)).toNat * d.toNat + (BitVec.ofNat w (n % d.toNat)).toNat ∧
      (BitVec.ofNat w (n % d.toNat)).toNat < d.toNat := by
  have hr : n % d.toNat < d.toNat := Nat.mod_lt n (Nat.pos_of_ne_zero hd)
  rw [BitVec.toNat_ofNat, BitVec.toNat_ofNat, Nat.mod_eq_of_lt hq, Nat.mod_eq_of_lt (hr.trans d.isLt)]
  exact ⟨(Nat.div_add_mod' n d.toNat).symm, hr⟩

theorem toInt_ofInt_of_natAbs_lt {w : Nat} (hw : 0 < w) {n : Int} (h : n.natAbs < 2 ^ (w - 1)) :
    (BitVec.ofInt w n).toInt = n := by
  have hcast : ((2 ^ (w - 1) : Nat) : Int) = 2 ^ (w - 1) := by push_cast; rfl
  exact BitVec.toInt_ofInt_eq_self hw (by omega) (by omega)

/-- The quotient is rounded toward 0, so the remainder has the dividend's sign (R212). -/
theorem signed_quotient_remainder {w : Nat} (hw : 0 < w) (n : Int) {d : BitVec w} (hd : d.toInt ≠ 0)
    (hq : n.natAbs / d.toInt.natAbs < 2 ^ (w - 1)) :
    let q := (BitVec.ofInt w (n.tdiv d.toInt)).toInt
    let r := (BitVec.ofInt w (n.tmod d.toInt)).toInt
    n = q * d.toInt + r ∧ r.natAbs < d.toInt.natAbs ∧ (r = 0 ∨ (r < 0 ↔ n < 0)) := by
  have hrem : (n.tmod d.toInt).natAbs < d.toInt.natAbs := by
    rw [Int.natAbs_tmod]
    exact Nat.mod_lt _ (Int.natAbs_pos.mpr hd)
  have hdle : d.toInt.natAbs ≤ 2 ^ (w - 1) := by
    have hcast : ((2 ^ (w - 1) : Nat) : Int) = 2 ^ (w - 1) := by push_cast; rfl
    have hlow := d.le_toInt
    have hhigh := d.toInt_lt
    omega
  have hquot : (n.tdiv d.toInt).natAbs < 2 ^ (w - 1) := by
    rw [Int.natAbs_tdiv]
    exact hq
  simp only [toInt_ofInt_of_natAbs_lt hw hquot, toInt_ofInt_of_natAbs_lt hw (hrem.trans_le hdle)]
  refine ⟨(Int.tdiv_mul_add_tmod n d.toInt).symm, hrem, ?_⟩
  have hsign := Int.sign_tmod n d.toInt
  split at hsign
  · exact .inl (Int.sign_eq_zero_iff_zero.mp hsign)
  · exact .inr (by rw [← Int.sign_eq_neg_one_iff_neg, hsign, Int.sign_eq_neg_one_iff_neg])

/-- A truncated quotient is out of range on either side just when its magnitude is (D21). -/
theorem tdiv_out_of_range_iff (n d : Int) (m : Nat) :
    (n.tdiv d > m ∨ n.tdiv d < -m) ↔ m < n.natAbs / d.natAbs := by
  have hmagnitude : (n.tdiv d).natAbs = n.natAbs / d.natAbs := Int.natAbs_tdiv n d
  omega

theorem State.dxAx_toNat (s : State) : s.dxAx.toNat = (s.r16 .dx).toNat * 65536 + (s.r16 .ax).toNat :=
  toNat_append_word _ _

/-! ### Where a division raises -/

section
variable {s : State}

/-! The tests of the divisor and of the quotient, which raise the same fault (R211, R212), are one test of either. -/

theorem div8_raises {d : Byte} (h : d.toNat = 0 ∨ 255 < (s.r16 .ax).toNat / d.toNat) :
    div8 d s = s.raise .divideError :=
  (ite_or ..).symm.trans (if_pos h)

theorem div16_raises {d : Word} (h : d.toNat = 0 ∨ 65535 < s.dxAx.toNat / d.toNat) :
    div16 d s = s.raise .divideError :=
  (ite_or ..).symm.trans (if_pos h)

theorem idiv8_raises {d : Byte} (h : d.toInt = 0 ∨ 127 < (s.r16 .ax).toInt.natAbs / d.toInt.natAbs) :
    idiv8 d s = s.raise .divideError :=
  (ite_or ..).symm.trans (if_pos (h.imp_right (tdiv_out_of_range_iff _ _ 127).mpr))

theorem idiv16_raises {d : Word} (h : d.toInt = 0 ∨ 32767 < s.dxAx.toInt.natAbs / d.toInt.natAbs) :
    idiv16 d s = s.raise .divideError :=
  (ite_or ..).symm.trans (if_pos (h.imp_right (tdiv_out_of_range_iff _ _ 32767).mpr))

end

/-- Settles O20: raising makes the record and empties the latches. -/
theorem divideErrorFaults : Obligations.DivideErrorFaults := by
  unfold Obligations.DivideErrorFaults
  refine ⟨fun rm s h => ⟨_, rfl, div8_raises h⟩, fun rm s h => ⟨_, rfl, div16_raises ?_⟩,
    fun rm s h => ⟨_, rfl, idiv8_raises h⟩, fun rm s h => ⟨_, rfl, idiv16_raises h⟩⟩
  rwa [s.dxAx_toNat]

/-! ### Where a division completes -/

section
variable {s : State}

theorem div8_completes {d : Byte} (hd : d.toNat ≠ 0) (hq : (s.r16 .ax).toNat / d.toNat ≤ 255) :
    div8 d s = (s.divided.setR8 .al (BitVec.ofNat 8 ((s.r16 .ax).toNat / d.toNat))).setR8 .ah
      (BitVec.ofNat 8 ((s.r16 .ax).toNat % d.toNat)) :=
  (if_neg hd).trans (if_neg (Nat.not_lt.mpr hq))

theorem div16_completes {d : Word} (hd : d.toNat ≠ 0) (hq : s.dxAx.toNat / d.toNat ≤ 65535) :
    div16 d s = (s.divided.setR16 .ax (BitVec.ofNat 16 (s.dxAx.toNat / d.toNat))).setR16 .dx
      (BitVec.ofNat 16 (s.dxAx.toNat % d.toNat)) :=
  (if_neg hd).trans (if_neg (Nat.not_lt.mpr hq))

theorem idiv8_completes {d : Byte} (hd : d.toInt ≠ 0) (hq : (s.r16 .ax).toInt.natAbs / d.toInt.natAbs ≤ 127) :
    idiv8 d s = (s.divided.setR8 .al (BitVec.ofInt 8 ((s.r16 .ax).toInt.tdiv d.toInt))).setR8 .ah
      (BitVec.ofInt 8 ((s.r16 .ax).toInt.tmod d.toInt)) :=
  (if_neg hd).trans (if_neg ((tdiv_out_of_range_iff _ _ 127).not.mpr (Nat.not_lt.mpr hq)))

theorem idiv16_completes {d : Word} (hd : d.toInt ≠ 0) (hq : s.dxAx.toInt.natAbs / d.toInt.natAbs ≤ 32767) :
    idiv16 d s = (s.divided.setR16 .ax (BitVec.ofInt 16 (s.dxAx.toInt.tdiv d.toInt))).setR16 .dx
      (BitVec.ofInt 16 (s.dxAx.toInt.tmod d.toInt)) :=
  (if_neg hd).trans (if_neg ((tdiv_out_of_range_iff _ _ 32767).not.mpr (Nat.not_lt.mpr hq)))

theorem completes_quotient8 {i : Instr} {q r : Byte} (hx : exec i s = .next ((s.divided.setR8 .al q).setR8 .ah r)) :
    Completes i s fun t => t.r8 .al = q ∧ t.r8 .ah = r ∧ ArithmeticKept [.ax] s t := by
  have hregs : RegsKeptBut [.ax] s ((s.setR8 .al q).setR8 .ah r) :=
    regsKeptBut_setR8_of_mem (regsKeptBut_setR8_of_mem (fun _ _ => rfl) (by decide) q) (by decide) r
  exact ⟨_, hx, by simp, by simp, ⟨rfl, rfl, rfl⟩, hregs, fun _ => rfl, ordinaryKept_of_flags s _ _ _⟩

theorem completes_quotient16 {i : Instr} {q r : Word} (hx : exec i s = .next ((s.divided.setR16 .ax q).setR16 .dx r)) :
    Completes i s fun t => t.r16 .ax = q ∧ t.r16 .dx = r ∧ ArithmeticKept [.ax, .dx] s t := by
  have hregs : RegsKeptBut [.ax, .dx] s ((s.setR16 .ax q).setR16 .dx r) :=
    regsKeptBut_setR16_of_mem (regsKeptBut_setR16_of_mem (fun _ _ => rfl) (by decide) q) (by decide) r
  exact ⟨_, hx, by simp, by simp, ⟨rfl, rfl, rfl⟩, hregs, fun _ => rfl, ordinaryKept_of_flags s _ _ _⟩

end

/-- Settles O35: quotient and remainder fit their registers, so these hold the numbers themselves. -/
theorem divideQuotientRemainder : Obligations.DivideQuotientRemainder := by
  unfold Obligations.DivideQuotientRemainder
  intro s
  refine ⟨fun rm hd hq => ?_, fun rm hd hq => ?_, fun rm hd hq => ?_, fun rm hd hq => ?_⟩
  · obtain ⟨heq, hlt⟩ := quotient_remainder _ hd (Nat.lt_succ_of_le hq)
    obtain ⟨t, ht, hal, hah, hkept⟩ :=
      completes_quotient8 (i := .divRm8 rm) (congrArg Host.Outcome.next (div8_completes hd hq))
    rw [← hal, ← hah] at heq
    rw [← hah] at hlt
    exact ⟨t, ht, heq, hlt, hkept⟩
  · rw [← s.dxAx_toNat] at hq ⊢
    obtain ⟨heq, hlt⟩ := quotient_remainder _ hd (Nat.lt_succ_of_le hq)
    obtain ⟨t, ht, hax, hdx, hkept⟩ :=
      completes_quotient16 (i := .divRm16 rm) (congrArg Host.Outcome.next (div16_completes hd hq))
    rw [← hax, ← hdx] at heq
    rw [← hdx] at hlt
    exact ⟨t, ht, heq, hlt, hkept⟩
  · obtain ⟨heq, hlt, hsign⟩ := signed_quotient_remainder (by decide) _ hd (Nat.lt_succ_of_le hq)
    obtain ⟨t, ht, hal, hah, hkept⟩ :=
      completes_quotient8 (i := .idivRm8 rm) (congrArg Host.Outcome.next (idiv8_completes hd hq))
    rw [← hal, ← hah] at heq
    rw [← hah] at hlt hsign
    exact ⟨t, ht, heq, hlt, hsign, hkept⟩
  · obtain ⟨heq, hlt, hsign⟩ := signed_quotient_remainder (by decide) s.dxAx.toInt hd (Nat.lt_succ_of_le hq)
    obtain ⟨t, ht, hax, hdx, hkept⟩ :=
      completes_quotient16 (i := .idivRm16 rm) (congrArg Host.Outcome.next (idiv16_completes hd hq))
    rw [← hax, ← hdx] at heq
    rw [← hdx] at hlt hsign
    exact ⟨t, ht, heq, hlt, hsign, hkept⟩

end Sys2Proof.Machine
end

section
/-! SUPPORT. NOT and TEST (spec/42_logic.md R253, R254): what they write, and that they write nothing else.
Settles O36. -/

namespace Sys2Proof.Machine

open Sys2Proof.Stated

/-! ### TEST -/

/-- Setting the flags of the bitwise and, at either width, is all that R254 allows: registers and memory are kept. -/
theorem testEffect_setFlags {w : Nat} (a b : BitVec w) (s : State) :
    TestEffect a b s ((s.setFlags (logicFlags (a &&& b) (s.free 0) s.flags)).drew 1) := by
  obtain ⟨hip, hsregs, hquiet⟩ := ordinaryKept_of_flags s (logicFlags (a &&& b) (s.free 0) s.flags) (s.draws + 1) s.regs
  exact ⟨a &&& b, BitVec.toNat_and a b, logicFlags_rule .., hip, fun _ => rfl, hsregs, fun _ => rfl, hquiet⟩

theorem test8_effect (a b : Byte) (s : State) : TestEffect a b s (test8 a b s) :=
  testEffect_setFlags a b s

theorem test16_effect (a b : Word) (s : State) : TestEffect a b s (test16 a b s) :=
  testEffect_setFlags a b s

/-! ### NOT -/

/-- NOT is one operand write that leaves FLAGS alone, and the value written is the operand's complement to `2^8 - 1`. -/
theorem completes_notRm8 {s : State} (h : Memory.wf s.mem = true) (rm : Rm Reg8) :
    Completes (.notRm8 rm) s fun t =>
      ∃ v : Byte, v.toNat = 255 - (s.readRm8 rm).toNat ∧ Writes8 s t rm v ∧ t.flags = s.flags ∧ OrdinaryKept s t := by
  obtain ⟨t, ht, hwrite⟩ := completes_writeRm8 (i := .notRm8 rm) h rfl
  exact ⟨t, ht, ~~~(s.readRm8 rm), BitVec.toNat_not, hwrite⟩

theorem completes_notRm16 {s : State} (h : Memory.wf s.mem = true) (rm : Rm Reg16) :
    Completes (.notRm16 rm) s fun t =>
      ∃ v : Word, v.toNat = 65535 - (s.readRm16 rm).toNat ∧ Writes16 s t rm v ∧ t.flags = s.flags ∧
        OrdinaryKept s t := by
  obtain ⟨t, ht, hwrite⟩ := completes_writeRm16 (i := .notRm16 rm) h rfl
  exact ⟨t, ht, ~~~(s.readRm16 rm), BitVec.toNat_not, hwrite⟩

/-- Settles O36: NOT is one operand write, and the six forms of TEST are its two operations on their operands. -/
theorem notAndTest : Obligations.NotAndTest := by
  unfold Obligations.NotAndTest
  intro s h
  exact ⟨completes_notRm8 h, completes_notRm16 h,
    fun rm r => ⟨_, rfl, test8_effect (s.readRm8 rm) (s.r8 r) s⟩,
    fun rm r => ⟨_, rfl, test16_effect (s.readRm16 rm) (s.r16 r) s⟩,
    fun ib => ⟨_, rfl, test8_effect (s.r8 .al) ib s⟩,
    fun iw => ⟨_, rfl, test16_effect (s.r16 .ax) iw s⟩,
    fun rm ib => ⟨_, rfl, test8_effect (s.readRm8 rm) ib s⟩,
    fun rm iw => ⟨_, rfl, test16_effect (s.readRm16 rm) iw s⟩⟩

end Sys2Proof.Machine
end

section
/-! SUPPORT. The loop of the shifts and rotates in closed form (spec/43_shift_rotate.md R271 to R278): each single-bit
step is a rotation or shift of a bit vector by 1, where a rotate through carry rotates `CF ++ x`; rotations and shifts
add up along the loop, and each is arithmetic on the operand's number. Settles O37 and O38. -/

namespace Sys2Proof.Machine

open Sys2Proof.Stated

/-! ### Bits of a single-bit step -/

section
variable {w : Nat} (x : BitVec w) (b : Bool) {i : Nat} (hi : i < w)
include hi

/-- `b` enters at bit 0. -/
theorem getLsbD_shiftLeft_one_or_lowBit :
    (x <<< 1 ||| lowBit b).getLsbD i = if i = 0 then b else x.getLsbD (i - 1) := by
  have hlow : (lowBit b : BitVec w).getLsbD i = (b && decide (i = 0)) := by
    cases b <;> simp [lowBit, Nat.zero_lt_of_lt hi]
  rw [BitVec.getLsbD_or, BitVec.getLsbD_shiftLeft, hlow]
  by_cases h : i = 0 <;> simp [h, hi]

/-- `b` enters at the top bit. -/
theorem getLsbD_ushiftRight_one_or_topBit :
    (x >>> 1 ||| topBit b).getLsbD i = if i + 1 = w then b else x.getLsbD (i + 1) := by
  have htop : (topBit b : BitVec w).getLsbD i = (b && decide (i + 1 = w)) := by
    cases b with
    | false => simp [topBit]
    | true =>
      rw [topBit, if_pos rfl, BitVec.getLsbD_ofNat, Nat.testBit_two_pow, decide_eq_true hi, Bool.true_and,
        Bool.true_and, decide_eq_decide]
      omega
  rw [BitVec.getLsbD_or, BitVec.getLsbD_ushiftRight, htop, Nat.add_comm]
  by_cases h : i + 1 = w <;> simp [h]

theorem getLsbD_rotateLeft_one (hw : 1 < w) :
    (x.rotateLeft 1).getLsbD i = if i = 0 then x.msb else x.getLsbD (i - 1) := by
  rw [BitVec.getLsbD_rotateLeft, Nat.mod_eq_of_lt hw, BitVec.msb_eq_getLsbD_last]
  by_cases h : i = 0 <;> simp [h, hi]

/-- The bits of a rotation to the right, counted round the width. -/
theorem getLsbD_rotateRight_eq_add_mod (n : Nat) : (x.rotateRight n).getLsbD i = x.getLsbD ((n + i) % w) := by
  have hn : n % w < w := Nat.mod_lt n (by omega)
  rw [BitVec.getLsbD_rotateRight, ← Nat.mod_add_mod]
  generalize n % w = m at *
  rcases Nat.lt_or_ge i (w - m) with hlt | hge
  · rw [Nat.mod_eq_of_lt (by omega), decide_eq_true hlt, cond_true]
  · rw [Nat.mod_eq_sub_mod (by omega), Nat.mod_eq_of_lt (by omega), decide_eq_false (by omega), cond_false,
      decide_eq_true hi, Bool.true_and]
    congr 1
    omega

theorem getLsbD_rotateRight_one :
    (x.rotateRight 1).getLsbD i = if i + 1 = w then x.getLsbD 0 else x.getLsbD (i + 1) := by
  rw [getLsbD_rotateRight_eq_add_mod x hi 1, Nat.add_comm]
  by_cases h : i + 1 = w
  · simp [h]
  · rw [Nat.mod_eq_of_lt (by omega), if_neg h]

theorem getLsbD_sshiftRight_one :
    (x.sshiftRight 1).getLsbD i = if i + 1 = w then x.msb else x.getLsbD (i + 1) := by
  rw [BitVec.getLsbD_sshiftRight, Nat.add_comm]
  by_cases h : i + 1 = w
  · simp [h, hi]
  · simp [h, hi, show i + 1 < w by omega]

end

/-! ### Rotations add up -/

theorem rotateLeft_add {w : Nat} (x : BitVec w) (m n : Nat) : (x.rotateLeft m).rotateLeft n = x.rotateLeft (m + n) := by
  refine BitVec.eq_of_getMsbD_eq fun i hi => ?_
  simp only [BitVec.getMsbD_rotateLeft, hi, Nat.mod_lt _ (Nat.zero_lt_of_lt hi), Nat.add_mod_mod, Nat.add_assoc,
    decide_true, Bool.true_and]

theorem rotateRight_add {w : Nat} (x : BitVec w) (m n : Nat) :
    (x.rotateRight m).rotateRight n = x.rotateRight (m + n) := by
  refine BitVec.eq_of_getLsbD_eq fun i hi => ?_
  rw [getLsbD_rotateRight_eq_add_mod _ hi, getLsbD_rotateRight_eq_add_mod _ (Nat.mod_lt _ (Nat.zero_lt_of_lt hi)),
    getLsbD_rotateRight_eq_add_mod _ hi, Nat.add_mod_mod, Nat.add_assoc]

theorem rotateLeft_zero {w : Nat} (x : BitVec w) : x.rotateLeft 0 = x := by
  simp [BitVec.rotateLeft_def, BitVec.ushiftRight_eq_zero]

theorem rotateRight_zero {w : Nat} (x : BitVec w) : x.rotateRight 0 = x := by
  simp [BitVec.rotateRight_def]

/-! ### The single-bit steps -/

/-- `CF ++ x`, which a rotate through carry rotates (R274, R275). -/
def carryAbove {w : Nat} (xc : BitVec w × Bool) : BitVec (w + 1) := BitVec.cons xc.2 xc.1

theorem getLsbD_carryAbove {w : Nat} (xc : BitVec w × Bool) (i : Nat) :
    (carryAbove xc).getLsbD i = if i = w then xc.2 else xc.1.getLsbD i :=
  BitVec.getLsbD_cons ..

section
variable {w : Nat} (xc : BitVec w × Bool)

theorem Shift.step_rol (hw : 1 < w) : Shift.rol.step xc = (xc.1.rotateLeft 1, xc.1.msb) := by
  refine Prod.ext (BitVec.eq_of_getLsbD_eq fun i hi => ?_) rfl
  rw [getLsbD_rotateLeft_one xc.1 hi hw]
  exact getLsbD_shiftLeft_one_or_lowBit xc.1 xc.1.msb hi

theorem Shift.step_ror : Shift.ror.step xc = (xc.1.rotateRight 1, xc.1.getLsbD 0) := by
  refine Prod.ext (BitVec.eq_of_getLsbD_eq fun i hi => ?_) rfl
  rw [getLsbD_rotateRight_one xc.1 hi]
  exact getLsbD_ushiftRight_one_or_topBit xc.1 (xc.1.getLsbD 0) hi

theorem Shift.carryAbove_step_rcl (hw : 0 < w) : carryAbove (Shift.rcl.step xc) = (carryAbove xc).rotateLeft 1 := by
  obtain ⟨x, c⟩ := xc
  refine BitVec.eq_of_getLsbD_eq fun i hi => ?_
  have hmsb : (carryAbove (x, c)).msb = c := BitVec.msb_cons
  rw [getLsbD_rotateLeft_one _ hi (by omega), hmsb, getLsbD_carryAbove, getLsbD_carryAbove, Shift.step]
  rcases Nat.lt_or_ge i w with hlt | hge
  · rw [getLsbD_shiftLeft_one_or_lowBit x c hlt, if_neg hlt.ne, if_neg (by omega : i - 1 ≠ w)]
  · obtain rfl : i = w := by omega
    rw [if_pos rfl, if_neg hw.ne', if_neg (by omega), BitVec.msb_eq_getLsbD_last]

theorem Shift.carryAbove_step_rcr (hw : 0 < w) : carryAbove (Shift.rcr.step xc) = (carryAbove xc).rotateRight 1 := by
  obtain ⟨x, c⟩ := xc
  refine BitVec.eq_of_getLsbD_eq fun i hi => ?_
  rw [getLsbD_rotateRight_one _ hi, getLsbD_carryAbove, getLsbD_carryAbove, getLsbD_carryAbove, Shift.step]
  rcases Nat.lt_or_ge i w with hlt | hge
  · rw [getLsbD_ushiftRight_one_or_topBit x c hlt, if_neg hlt.ne, if_neg (by omega : i + 1 ≠ w + 1)]
  · obtain rfl : i = w := by omega
    rw [if_pos rfl, if_pos rfl, if_neg hw.ne]

theorem Shift.step_shl : Shift.shl.step xc = (xc.1 <<< 1, xc.1.msb) := rfl

theorem Shift.step_shr : Shift.shr.step xc = (xc.1 >>> 1, xc.1.getLsbD 0) := rfl

theorem Shift.step_sar : Shift.sar.step xc = (xc.1.sshiftRight 1, xc.1.getLsbD 0) := by
  refine Prod.ext (BitVec.eq_of_getLsbD_eq fun i hi => ?_) rfl
  rw [getLsbD_sshiftRight_one xc.1 hi]
  exact getLsbD_ushiftRight_one_or_topBit xc.1 xc.1.msb hi

end

/-! ### The loop as one rotation or shift -/

section
variable {w : Nat} (xc : BitVec w × Bool) (n : Nat)

theorem Shift.iterate_rol (hw : 1 < w) : (Shift.rol.iterate n xc).1 = xc.1.rotateLeft n := by
  induction n with
  | zero => exact (rotateLeft_zero _).symm
  | succ n ih => rw [Shift.iterate_succ, Shift.step_rol _ hw, ih, rotateLeft_add]

theorem Shift.iterate_ror : (Shift.ror.iterate n xc).1 = xc.1.rotateRight n := by
  induction n with
  | zero => exact (rotateRight_zero _).symm
  | succ n ih => rw [Shift.iterate_succ, Shift.step_ror, ih, rotateRight_add]

theorem Shift.carryAbove_iterate_rcl (hw : 0 < w) :
    carryAbove (Shift.rcl.iterate n xc) = (carryAbove xc).rotateLeft n := by
  induction n with
  | zero => exact (rotateLeft_zero _).symm
  | succ n ih => rw [Shift.iterate_succ, Shift.carryAbove_step_rcl _ hw, ih, rotateLeft_add]

theorem Shift.carryAbove_iterate_rcr (hw : 0 < w) :
    carryAbove (Shift.rcr.iterate n xc) = (carryAbove xc).rotateRight n := by
  induction n with
  | zero => exact (rotateRight_zero _).symm
  | succ n ih => rw [Shift.iterate_succ, Shift.carryAbove_step_rcr _ hw, ih, rotateRight_add]

theorem Shift.iterate_shl : (Shift.shl.iterate n xc).1 = xc.1 <<< n := by
  induction n with
  | zero => exact (BitVec.shiftLeft_zero _).symm
  | succ n ih => rw [Shift.iterate_succ, Shift.step_shl, ih, BitVec.shiftLeft_add]

theorem Shift.iterate_shr : (Shift.shr.iterate n xc).1 = xc.1 >>> n := by
  induction n with
  | zero => exact (BitVec.ushiftRight_zero _).symm
  | succ n ih => rw [Shift.iterate_succ, Shift.step_shr, ih, BitVec.shiftRight_add]

theorem Shift.iterate_sar : (Shift.sar.iterate n xc).1 = xc.1.sshiftRight n := by
  induction n with
  | zero => exact BitVec.sshiftRight_zero.symm
  | succ n ih => rw [Shift.iterate_succ, Shift.step_sar, ih, BitVec.sshiftRight_add]

end

/-! ### Rotations and shifts as arithmetic -/

/-- The two parts of a rotation fill different bits, so joining them is adding them, and the sum does not wrap. -/
theorem shiftLeft_or_shiftRight_eq {w m p : Nat} (hw : m + p = w) {n : Nat} (hn : n < 2 ^ w) :
    n <<< m % 2 ^ w ||| n >>> p = (n * 2 ^ m + n / 2 ^ p) % 2 ^ w := by
  subst hw
  have hlow : n / 2 ^ p < 2 ^ m := Nat.div_lt_of_lt_mul (by rwa [mul_comm, ← pow_add])
  have hhigh : n <<< m % 2 ^ (m + p) = (n % 2 ^ p) <<< m := by
    rw [Nat.shiftLeft_eq, Nat.shiftLeft_eq, add_comm, pow_add, Nat.mul_mod_mul_right]
  have hjoin : n <<< m % 2 ^ (m + p) ||| n >>> p = n * 2 ^ m % 2 ^ (m + p) + n / 2 ^ p := by
    rw [hhigh, Nat.shiftRight_eq_div_pow, ← Nat.shiftLeft_add_eq_or_of_lt hlow, ← hhigh, Nat.shiftLeft_eq]
  have hlt : n <<< m % 2 ^ (m + p) ||| n >>> p < 2 ^ (m + p) :=
    Nat.or_lt_two_pow (Nat.mod_lt _ (by positivity)) ((Nat.shiftRight_le n p).trans_lt hn)
  rw [← Nat.mod_add_mod, ← hjoin, Nat.mod_eq_of_lt hlt]

theorem toNat_rotateLeft_arith {w : Nat} (hw : 0 < w) (x : BitVec w) (n : Nat) :
    (x.rotateLeft n).toNat = (x.toNat * 2 ^ (n % w) + x.toNat / 2 ^ (w - n % w)) % 2 ^ w := by
  rw [BitVec.toNat_rotateLeft]
  exact shiftLeft_or_shiftRight_eq (Nat.add_sub_cancel' (Nat.mod_lt n hw).le) x.isLt

theorem toNat_rotateRight_arith {w : Nat} (hw : 0 < w) (x : BitVec w) (n : Nat) :
    (x.rotateRight n).toNat = (x.toNat / 2 ^ (n % w) + x.toNat * 2 ^ (w - n % w)) % 2 ^ w := by
  rw [BitVec.toNat_rotateRight, Nat.lor_comm, Nat.add_comm]
  exact shiftLeft_or_shiftRight_eq (Nat.sub_add_cancel (Nat.mod_lt n hw).le) x.isLt

theorem toInt_sshiftRight_arith {w : Nat} (x : BitVec w) (n : Nat) : (x.sshiftRight n).toInt = x.toInt / 2 ^ n := by
  rw [BitVec.toInt_sshiftRight, Int.shiftRight_eq_div_pow]
  push_cast
  rfl

theorem toNat_eq_toInt_emod {w : Nat} (x : BitVec w) : x.toNat = (x.toInt % 2 ^ w).toNat := by
  have hcast : ((2 ^ w : Nat) : Int) = 2 ^ w := by push_cast; rfl
  rw [← hcast, ← BitVec.toNat_ofInt, BitVec.ofInt_toInt]

theorem getLsbD_zero_eq_toInt {w : Nat} (hw : 0 < w) (x : BitVec w) : x.getLsbD 0 = decide (x.toInt % 2 = 1) := by
  obtain ⟨v, rfl⟩ : ∃ v, w = v + 1 := ⟨w - 1, by omega⟩
  rw [← BitVec.testBit_toNat, Nat.testBit_zero, decide_eq_decide, BitVec.toInt_eq_toNat_cond, pow_succ]
  split <;> omega

section
variable {w : Nat} (xc : BitVec w × Bool)

theorem toNat_carryAbove : (carryAbove xc).toNat = xc.2.toNat * 2 ^ w + xc.1.toNat := by
  rw [carryAbove, BitVec.toNat_cons', Nat.shiftLeft_eq]

theorem value_eq_carryAbove_mod : xc.1.toNat = (carryAbove xc).toNat % 2 ^ w := by
  rw [toNat_carryAbove, Nat.mul_add_mod', Nat.mod_eq_of_lt xc.1.isLt]

theorem carry_eq_carryAbove_testBit : xc.2 = (carryAbove xc).toNat.testBit w := by
  rw [BitVec.testBit_toNat, getLsbD_carryAbove, if_pos rfl]

end

/-! ### The closed form -/

section
variable {w : Nat} (xc : BitVec w × Bool) (n : Nat)

/-- The last bit out of ROL has become bit 0 (R272). -/
theorem Shift.carry_rol (hw : 0 < w) :
    (Shift.rol.iterate (n + 1) xc).2 = (Shift.rol.iterate (n + 1) xc).1.getLsbD 0 := by
  rw [Shift.iterate_succ]
  exact (getLsbD_shiftLeft_one_or_lowBit _ _ hw).symm

/-- The last bit out of ROR has become the top bit (R273). -/
theorem Shift.carry_ror (hw : 0 < w) :
    (Shift.ror.iterate (n + 1) xc).2 = (Shift.ror.iterate (n + 1) xc).1.getLsbD (w - 1) := by
  rw [Shift.iterate_succ]
  exact ((getLsbD_ushiftRight_one_or_topBit _ _ (Nat.sub_one_lt_of_lt hw)).trans (if_pos (by omega))).symm

theorem Shift.carry_shl (hw : 0 < w) :
    (Shift.shl.iterate (n + 1) xc).2 = (xc.1.toNat * 2 ^ (n + 1)).testBit w := by
  obtain ⟨v, rfl⟩ : ∃ v, w = v + 1 := ⟨w - 1, by omega⟩
  have hbit : (xc.1 <<< n).msb = (xc.1.toNat * 2 ^ n).testBit v := by
    rw [BitVec.msb_eq_getLsbD_last, ← BitVec.testBit_toNat, BitVec.toNat_shiftLeft, Nat.shiftLeft_eq,
      Nat.testBit_mod_two_pow]
    simp
  rw [Shift.iterate_succ, Shift.step_shl, Shift.iterate_shl, hbit, pow_succ, ← mul_assoc, Nat.testBit_succ,
    Nat.mul_div_cancel _ (by decide)]

theorem Shift.carry_shr : (Shift.shr.iterate (n + 1) xc).2 = (xc.1.toNat / 2 ^ n).testBit 0 := by
  rw [Shift.iterate_succ, Shift.step_shr, Shift.iterate_shr, ← BitVec.testBit_toNat, BitVec.toNat_ushiftRight,
    Nat.shiftRight_eq_div_pow]

theorem Shift.carry_sar (hw : 0 < w) : (Shift.sar.iterate (n + 1) xc).2 = decide (xc.1.toInt / 2 ^ n % 2 = 1) := by
  rw [Shift.iterate_succ, Shift.step_sar, Shift.iterate_sar, getLsbD_zero_eq_toInt hw, toInt_sshiftRight_arith]

end

section
variable {w : Nat} (hw : 1 < w) (k : Shift) (x : BitVec w) (c : Bool) (n : Nat)
include hw

theorem Shift.iterate_value : (k.iterate n (x, c)).1.toNat = (shiftClosed w k n x c).1 := by
  have hpos : 0 < w := Nat.zero_lt_of_lt hw
  cases k with
  | rol => rw [iterate_rol _ n hw]; exact toNat_rotateLeft_arith hpos x n
  | ror => rw [iterate_ror]; exact toNat_rotateRight_arith hpos x n
  | rcl =>
    rw [value_eq_carryAbove_mod, carryAbove_iterate_rcl _ n hpos, toNat_rotateLeft_arith w.succ_pos, toNat_carryAbove]
    rfl
  | rcr =>
    rw [value_eq_carryAbove_mod, carryAbove_iterate_rcr _ n hpos, toNat_rotateRight_arith w.succ_pos, toNat_carryAbove]
    rfl
  | shl => rw [iterate_shl, BitVec.toNat_shiftLeft, Nat.shiftLeft_eq]; rfl
  | shr => rw [iterate_shr, BitVec.toNat_ushiftRight, Nat.shiftRight_eq_div_pow]; rfl
  | sar => rw [iterate_sar, toNat_eq_toInt_emod, toInt_sshiftRight_arith]; rfl

theorem Shift.iterate_carry : (k.iterate (n + 1) (x, c)).2 = (shiftClosed w k (n + 1) x c).2 := by
  have hpos : 0 < w := Nat.zero_lt_of_lt hw
  cases k with
  | rol => rw [carry_rol _ n hpos, ← BitVec.testBit_toNat, iterate_value hw]; rfl
  | ror => rw [carry_ror _ n hpos, ← BitVec.testBit_toNat, iterate_value hw]; rfl
  | rcl =>
    rw [carry_eq_carryAbove_testBit, carryAbove_iterate_rcl _ _ hpos, toNat_rotateLeft_arith w.succ_pos,
      toNat_carryAbove]
    rfl
  | rcr =>
    rw [carry_eq_carryAbove_testBit, carryAbove_iterate_rcr _ _ hpos, toNat_rotateRight_arith w.succ_pos,
      toNat_carryAbove]
    rfl
  | shl => exact carry_shl (x, c) n hpos
  | shr => exact carry_shr (x, c) n
  | sar => exact carry_sar (x, c) n hpos

end

/-! ### Flags -/

theorem Shift.of1_eq_shiftOverflow {w : Nat} (k : Shift) (x r : BitVec w) (c : Bool) :
    k.of1 x r c = shiftOverflow w k x.toNat r.toNat c := by
  cases k <;> simp [of1, shiftOverflow, BitVec.msb_eq_getLsbD_last, BitVec.testBit_toNat]

/-- The flags after the loop (R271). -/
theorem Shift.flags_rule {w : Nat} (hw : 1 < w) (k : Shift) (n : Nat) (x : BitVec w) (u : Nat → Bool) (f : Flags) :
    let r := k.iterate n (x, f.CF)
    ShiftFlags k n x f r.1 (k.flags n x r.1 r.2 u f) := by
  unfold ShiftFlags
  cases n with
  | zero => rfl
  | succ n =>
    intro r
    have hCF : (k.flags (n + 1) x r.1 r.2 u f).CF = r.2 := by cases k <;> rfl
    have hOF (h : n + 1 = 1) : (k.flags (n + 1) x r.1 r.2 u f).OF = k.of1 x r.1 r.2 := by
      obtain rfl : n = 0 := Nat.succ_injective h
      cases k <;> rfl
    rw [if_neg n.succ_ne_zero, hCF]
    refine ⟨iterate_carry hw k x f.CF n, fun h => (hOF h).trans (k.of1_eq_shiftOverflow x r.1 r.2),
      k.flags_control .., ?_⟩
    cases k with
    | rol | ror | rcl | rcr => exact ⟨rfl, rfl, rfl, rfl⟩
    | shl | shr | sar => exact setSZP_resultFlags r.1 f

/-! ### The common algorithm of R271 -/

theorem shift8_eq (k : Shift) (rm : Rm Reg8) (n : Nat) (s : State) :
    let r := k.iterate n (s.readRm8 rm, s.flags.CF)
    shift8 k rm n s =
      ((s.setFlags (k.flags n (s.readRm8 rm) r.1 r.2 s.free s.flags)).writeRm8 rm r.1).drew (shiftDrawn n) :=
  State.writeRm8_drew ..

theorem shift8_effect {s : State} (h : Memory.wf s.mem = true) (k : Shift) (rm : Rm Reg8) (n : Nat) :
    ShiftEffect8 k rm n s (shift8 k rm n s) := by
  rw [shift8_eq]
  refine ⟨_, k.iterate_value (by decide) .., ?_, writes8_drew (writes8_setFlags_writeRm8 h _ rm _) _,
    ordinaryKept_setFlags_writeRm8 s _ rm _⟩
  simpa using k.flags_rule (by decide) n (s.readRm8 rm) s.free s.flags

theorem shift16_eq (k : Shift) (rm : Rm Reg16) (n : Nat) (s : State) :
    let r := k.iterate n (s.readRm16 rm, s.flags.CF)
    shift16 k rm n s =
      ((s.setFlags (k.flags n (s.readRm16 rm) r.1 r.2 s.free s.flags)).writeRm16 rm r.1).drew (shiftDrawn n) :=
  State.writeRm16_drew ..

theorem shift16_effect {s : State} (h : Memory.wf s.mem = true) (k : Shift) (rm : Rm Reg16) (n : Nat) :
    ShiftEffect16 k rm n s (shift16 k rm n s) := by
  rw [shift16_eq]
  refine ⟨_, k.iterate_value (by decide) .., ?_, writes16_drew (writes16_setFlags_writeRm16 h _ rm _) _,
    ordinaryKept_setFlags_writeRm16 s _ rm _⟩
  simpa using k.flags_rule (by decide) n (s.readRm16 rm) s.free s.flags

/-- Settles O37: both forms are the common algorithm, with 1 or CL as the count. -/
theorem shiftBytes : Obligations.ShiftBytes := by
  unfold Obligations.ShiftBytes
  intro k rm s h
  refine ⟨⟨_, ?_, shift8_effect h k rm 1⟩, ⟨_, ?_, shift8_effect h k rm (s.r8 .cl).toNat⟩⟩
  all_goals cases k <;> rfl

/-- Settles O38: the same for words. -/
theorem shiftWords : Obligations.ShiftWords := by
  unfold Obligations.ShiftWords
  intro k rm s h
  refine ⟨⟨_, ?_, shift16_effect h k rm 1⟩, ⟨_, ?_, shift16_effect h k rm (s.r8 .cl).toNat⟩⟩
  all_goals cases k <;> rfl

end Sys2Proof.Machine
end

section
/-! SUPPORT. Control flow (spec/44_control_flow.md): one law for each shape of transfer (a relative jump, a far jump, a
call and a return of each distance, a loop), with what it changes and what it leaves alone. Settles O47 to O51. -/

namespace Sys2Proof.Machine

open Sys2Proof.Stated

/-- A transfer may move IP and CS, adjust registers and push on the stack; the flags and the rest are kept (R291). -/
theorem flags_quietKept_of_transfer (s : State) (g : Regs) (q : SegRegs) (m : List Host.Cell) (off : Word) :
    let t := { s with regs := g, sregs := q, mem := m, ip := off }
    t.flags = s.flags ∧ QuietKept s t :=
  ⟨rfl, rfl, rfl, rfl, rfl, rfl, rfl, rfl, rfl, rfl⟩

theorem ofNat_toNat_add_two (w : Word) : BitVec.ofNat 16 (w.toNat + 2) = w + 2 := by
  simp [BitVec.ofNat_add]

/-! ### Relative jumps -/

theorem State.flags_dataKept_setIp (s : State) (off : Word) : (s.setIp off).flags = s.flags ∧ DataKept s (s.setIp off) :=
  ⟨rfl, fun _ => rfl, fun _ => rfl, fun _ => rfl, (flags_quietKept_of_transfer s _ _ _ off).2⟩

/-- A jump that is not taken sets IP to itself. -/
theorem State.jumpRelative_eq_setIp (s : State) (c : Bool) (d : Word) :
    s.jumpRelative c d = s.setIp (if c then s.ip + d else s.ip) := by
  cases c <;> rfl

/-- The displacement byte is signed, and the target wraps (R290). -/
theorem State.toNat_ip_jumpRelative (s : State) (c : Bool) (cb : Byte) :
    ((s.jumpRelative c (signExtend8 cb)).ip.toNat : Int) =
      if c then ((s.ip.toNat : Int) + cb.toInt) % 65536 else (s.ip.toNat : Int) := by
  rw [State.jumpRelative_eq_setIp]
  cases c with
  | false => rfl
  | true => exact toNat_add_signExtend8 s.ip cb

theorem State.flags_dataKept_jumpRelative (s : State) (c : Bool) (d : Word) :
    (s.jumpRelative c d).flags = s.flags ∧ DataKept s (s.jumpRelative c d) := by
  rw [State.jumpRelative_eq_setIp]
  exact s.flags_dataKept_setIp _

theorem jumpsTo_setIp (s : State) {off : Word} {target : Nat} (h : off.toNat = target % 2 ^ 16) :
    JumpsTo s (s.setIp off) target :=
  ⟨h, s.flags_dataKept_setIp off⟩

/-! ### The sixteen conditions -/

/-- Conditions come in pairs of opposites (R291). -/
theorem Flags.cond_succ_of_even (f : Flags) {n : Nat} (hn : n < 16) (heven : n % 2 = 0) :
    f.cond (BitVec.ofNat 4 (n + 1)) = !f.cond (BitVec.ofNat 4 n) := by
  obtain ⟨k, rfl⟩ := Nat.dvd_of_mod_eq_zero heven
  have hk : k < 8 := by omega
  interval_cases k <;> simp [Flags.cond, bne]

/-- Each row of `jumps` is, as an encoding and as a meaning, the jump on the condition of its number. -/
theorem jcc_of_mem_jumps {row : Nat × (Byte → Instr) × (Flags → Bool)} (hrow : row ∈ jumps) :
    row.1 < 16 ∧ (∀ f, row.2.2 f = f.cond (BitVec.ofNat 4 row.1)) ∧
      ∀ cb, (row.2.1 cb).wf = true ∧ encode (row.2.1 cb) = [BitVec.ofNat 8 (0x70 + row.1), cb] ∧
        ∀ s, exec (row.2.1 cb) s = .next (jcc (BitVec.ofNat 4 row.1) cb s) := by
  unfold jumps at hrow
  fin_cases hrow <;> exact ⟨by decide, fun _ => rfl, fun _ => ⟨rfl, rfl, fun _ => rfl⟩⟩

/-- Settles O47: every row is the relative jump on `Flags.cond`. -/
theorem conditionalJumps : Obligations.ConditionalJumps := by
  unfold Obligations.ConditionalJumps
  constructor
  · intro row hrow cb s rest
    obtain ⟨-, hcond, hjump⟩ := jcc_of_mem_jumps hrow
    obtain ⟨hw, hencode, hexec⟩ := hjump cb
    obtain ⟨hflags, hkept⟩ := s.flags_dataKept_jumpRelative (s.flags.cond (BitVec.ofNat 4 row.1)) (signExtend8 cb)
    rw [hcond]
    exact ⟨decode_of_encode hw (by rw [hencode]; rfl), _, hexec s, hflags, hkept, s.toNat_ip_jumpRelative _ cb⟩
  · intro row hrow row' hrow' hsucc heven f
    obtain ⟨hlt, hcond, -⟩ := jcc_of_mem_jumps hrow
    obtain ⟨-, hcond', -⟩ := jcc_of_mem_jumps hrow'
    rw [hcond, hcond', hsucc]
    exact f.cond_succ_of_even hlt heven

/-! ### Unconditional jumps -/

/-- The second word of a far pointer is read two bytes on, at an offset that wraps (R169). -/
theorem State.farSegment_eq (s : State) (m : MemOp) :
    s.farSegment m = s.memRead16 (phys (s.memSeg m) (BitVec.ofNat 16 ((s.ea m).toNat + 2))) := by
  rw [ofNat_toNat_add_two]
  rfl

theorem State.sr_jumpFar_other (s : State) (seg off : Word) {q : Sreg} (h : q ≠ .cs) :
    (s.jumpFar seg off).sr q = s.sr q :=
  State.sr_setSr_other (s.setIp off) seg h

theorem completes_jumpFar {i : Instr} {s : State} {seg off : Word} (hx : exec i s = .next (s.jumpFar seg off)) :
    Completes i s fun t =>
      t.ip = off ∧ t.sr .cs = seg ∧ (∀ q, q ≠ .cs → t.sr q = s.sr q) ∧ RegsKept s t ∧ MemKept s t ∧
      t.flags = s.flags ∧ QuietKept s t :=
  ⟨_, hx, rfl, rfl, fun _ hq => s.sr_jumpFar_other seg off hq, fun _ => rfl, fun _ => rfl,
    flags_quietKept_of_transfer s _ _ _ off⟩

/-- Settles O48: the near jumps set IP, the far jumps CS and IP; the operands are read before. -/
theorem jumpTargets : Obligations.JumpTargets := by
  unfold Obligations.JumpTargets
  intro s
  refine ⟨fun cb => ⟨_, rfl, s.toNat_ip_jumpRelative true cb, s.flags_dataKept_jumpRelative true _⟩,
    fun cw => ⟨_, rfl, jumpsTo_setIp s (BitVec.toNat_add s.ip cw)⟩, fun off seg => completes_jumpFar rfl,
    fun rm => ⟨_, rfl, jumpsTo_setIp s (Nat.mod_eq_of_lt (BitVec.isLt _)).symm⟩, fun m => ?_⟩
  rw [← s.farSegment_eq m]
  exact completes_jumpFar rfl

/-! ### Calls -/

theorem completes_callNearTo {i : Instr} {s : State} (h : Memory.wf s.mem = true) {off : Word}
    (hx : exec i s = .next ((s.push16 s.ip).setIp off)) :
    Completes i s fun t => Pushes s t s.ip ∧ t.ip = off ∧ SregsKept s t ∧ t.flags = s.flags ∧ QuietKept s t :=
  ⟨_, hx, pushes_push16 h s.ip, rfl, fun _ => rfl, flags_quietKept_of_transfer s _ _ _ off⟩

/-- Between the two pushes of a far call stands the state that has pushed CS alone. -/
theorem pushesTwo_push16 {s : State} (h : Memory.wf s.mem = true) (v w : Word) :
    PushesTwo s ((s.push16 v).push16 w) v w :=
  ⟨s.push16 v, pushes_push16 h v, pushes_push16 (State.push16_wf h v) w, rfl, fun _ => rfl⟩

theorem completes_callFarTo {i : Instr} {s : State} (h : Memory.wf s.mem = true) {seg off : Word}
    (hx : exec i s = .next (callFarTo seg off s)) :
    Completes i s fun t =>
      PushesTwo s t (s.sr .cs) s.ip ∧ t.ip = off ∧ t.sr .cs = seg ∧ (∀ q, q ≠ .cs → t.sr q = s.sr q) ∧
      t.flags = s.flags ∧ QuietKept s t :=
  ⟨_, hx, pushesTwo_push16 h (s.sr .cs) s.ip, rfl, rfl, fun _ hq => State.sr_jumpFar_other _ seg off hq,
    flags_quietKept_of_transfer s _ _ _ off⟩

/-- Settles O49: the target is read in the state before the pushes. -/
theorem callsPushReturnAddress : Obligations.CallsPushReturnAddress := by
  unfold Obligations.CallsPushReturnAddress
  intro s h
  refine ⟨fun cw => ?_, fun rm => completes_callNearTo h rfl, fun off seg => completes_callFarTo h rfl, fun m => ?_⟩
  · obtain ⟨t, ht, hpush, hip, hkept⟩ := completes_callNearTo (i := .callNear cw) h rfl
    exact ⟨t, ht, hpush, hip ▸ BitVec.toNat_add s.ip cw, hkept⟩
  · rw [← s.farSegment_eq m]
    exact completes_callFarTo h rfl

/-! ### Returns -/

/-- A near return: SP and IP are written, nothing else. -/
theorem completes_returnNear {i : Instr} {s : State} {sp off : Word} {n : Nat}
    (hx : exec i s = .next ((s.setR16 .sp sp).setIp off)) (hsp : sp.toNat = ((s.r16 .sp).toNat + n) % 2 ^ 16) :
    Completes i s fun t =>
      t.ip = off ∧ SpRaised s t n ∧ SregsKept s t ∧ RegsKeptBut [.sp] s t ∧ MemKept s t ∧ t.flags = s.flags ∧
      QuietKept s t :=
  ⟨_, hx, rfl, hsp, fun _ => rfl, s.regsKeptBut_setR16 .sp sp, fun _ => rfl, flags_quietKept_of_transfer s _ _ _ off⟩

/-- A far return writes CS too. -/
theorem completes_returnFar {i : Instr} {s : State} {sp seg off : Word} {n : Nat}
    (hx : exec i s = .next ((s.setR16 .sp sp).jumpFar seg off)) (hsp : sp.toNat = ((s.r16 .sp).toNat + n) % 2 ^ 16) :
    Completes i s fun t =>
      t.ip = off ∧ t.sr .cs = seg ∧ SpRaised s t n ∧ (∀ q, q ≠ .cs → t.sr q = s.sr q) ∧ RegsKeptBut [.sp] s t ∧
      MemKept s t ∧ t.flags = s.flags ∧ QuietKept s t :=
  ⟨_, hx, rfl, rfl, hsp, fun _ hq => State.sr_jumpFar_other _ seg off hq, s.regsKeptBut_setR16 .sp sp, fun _ => rfl,
    flags_quietKept_of_transfer s _ _ _ off⟩

/-- Settles O50: SP moves by 2 for each word popped, and then by the immediate. -/
theorem returnsPopAddress : Obligations.ReturnsPopAddress := by
  unfold Obligations.ReturnsPopAddress
  intro s iw
  simp only [List.forall_mem_cons, List.not_mem_nil, false_implies, implies_true, and_true, ofNat_toNat_add_two]
  refine ⟨⟨?_, ?_⟩, ?_, ?_⟩
  · exact completes_returnNear (sp := s.r16 .sp + 2) rfl (by bv_omega)
  · exact completes_returnNear (sp := s.r16 .sp + 2 + iw) rfl (by bv_omega)
  · exact completes_returnFar (sp := s.r16 .sp + 2 + 2) rfl (by bv_omega)
  · exact completes_returnFar (sp := s.r16 .sp + 2 + 2 + iw) rfl (by bv_omega)

/-! ### Loops -/

/-- CX is lower by one before it is tested, and the jump changes IP alone (R321). -/
theorem completes_loopIf {i : Instr} {s : State} {zf : Bool} {cb : Byte} (hx : exec i s = .next (loopIf zf cb s)) :
    Completes i s fun t =>
      ((t.r16 .cx).toNat : Int) = ((s.r16 .cx).toNat - 1 : Int) % 2 ^ 16 ∧
      (t.ip.toNat : Int) =
        (if (t.r16 .cx).toNat ≠ 0 ∧ zf = true then ((s.ip.toNat : Int) + cb.toInt) % 65536 else (s.ip.toNat : Int)) ∧
      RegsKeptBut [.cx] s t ∧ SregsKept s t ∧ MemKept s t ∧ t.flags = s.flags ∧ QuietKept s t := by
  obtain ⟨hflags, hregs, hsregs, hmem, hquiet⟩ :=
    s.decCx.flags_dataKept_jumpRelative (decide (s.regs.cx - 1 ≠ 0) && zf) (signExtend8 cb)
  have hcx : (loopIf zf cb s).r16 .cx = s.r16 .cx - 1 := hregs .cx
  refine ⟨_, hx, ?_, ?_, fun q hq => (hregs q).trans (s.regsKeptBut_setR16 .cx _ q hq), hsregs, hmem, hflags, hquiet⟩
  · rw [hcx]
    bv_omega
  · have htaken : (decide (s.regs.cx - 1 ≠ 0) && zf) = true ↔ (s.r16 .cx - 1).toNat ≠ 0 ∧ zf = true := by
      rw [Bool.and_eq_true, decide_eq_true_iff, ne_eq, BitVec.toNat_eq]
      rfl
    simp only [hcx, ← htaken]
    exact s.decCx.toNat_ip_jumpRelative _ cb

/-- Settles O51: the three loops are `loopIf` with their condition on ZF; JCXZ is a relative jump. -/
theorem loopsCountDown : Obligations.LoopsCountDown := by
  unfold Obligations.LoopsCountDown
  intro s cb
  have hloop : ∀ p ∈ [(Instr.loop cb, true), (.loope cb, s.flags.ZF), (.loopne cb, !s.flags.ZF)],
      exec p.1 s = .next (loopIf p.2 cb s) := by
    simp only [List.forall_mem_cons, List.not_mem_nil, false_implies, implies_true, and_true]
    exact ⟨rfl, rfl, rfl⟩
  refine ⟨fun p hp => completes_loopIf (hloop p hp), _, rfl, ?_, s.flags_dataKept_jumpRelative _ _⟩
  have hzero : decide (s.regs.cx = 0) = true ↔ (s.r16 .cx).toNat = 0 :=
    decide_eq_true_iff.trans BitVec.toNat_eq
  simp only [← hzero]
  exact s.toNat_ip_jumpRelative _ cb

end Sys2Proof.Machine
end

section
/-! SUPPORT. The flag instructions (spec/45_flag_manipulation.md): each is one setting of FLAGS, and complementing a flag
twice gives FLAGS back. Settles O52. -/

namespace Sys2Proof.Machine

open Sys2Proof.Stated

/-- An instruction that only sets FLAGS leaves FLAGS as set and the rest of the machine as it was. -/
theorem completes_setFlags {i : Instr} {s : State} {f : Flags} (hx : exec i s = .next (s.setFlags f)) :
    Completes i s fun t => t.flags = f ∧ t.ip = s.ip ∧ DataKept s t := by
  obtain ⟨hip, hsregs, hquiet⟩ := ordinaryKept_of_flags s f s.draws s.regs
  exact ⟨_, hx, rfl, hip, fun _ => rfl, hsregs, fun _ => rfl, hquiet⟩

theorem State.setFlags_setFlags (s : State) (f g : Flags) : (s.setFlags f).setFlags g = s.setFlags g := rfl

theorem State.setFlags_self (s : State) : s.setFlags s.flags = s := rfl

/-- What R336 writes to FLAGS. -/
theorem exec_cmc (s : State) : exec .cmc s = .next (s.setFlags { s.flags with CF := !s.flags.CF }) := rfl

/-- The second CMC complements the complement of CF, so FLAGS is set back to what it was (R336). -/
theorem exec_cmc_twice (s : State) : ∃ t, exec .cmc s = .next t ∧ exec .cmc t = .next s := by
  refine ⟨_, exec_cmc s, ?_⟩
  simp only [exec_cmc, State.setFlags_setFlags, State.setFlags_flags, Bool.not_not]
  exact congrArg Host.Outcome.next s.setFlags_self

/-- Settles O52: every row decodes from its encoding and sets FLAGS to its third entry. -/
theorem flagInstructions : Obligations.FlagInstructions := by
  unfold Obligations.FlagInstructions
  intro s rest
  refine ⟨fun row hrow => ?_, exec_cmc_twice s⟩
  fin_cases hrow <;> exact ⟨decode_of_encode rfl rfl, completes_setFlags rfl⟩

end Sys2Proof.Machine
end

section
/-! SUPPORT. The string primitives (spec/46_string.md): one element and the pointers it moves, what every element leaves
alone, and the repeat loop, one turn at a time and as a whole. Settles O54, O55, O56 and O57. -/

namespace Sys2Proof.Machine

open Sys2Proof.Stated

/-! ### One element -/

/-- `advance` in the numbers' arithmetic (R340). -/
theorem State.add_delta (s : State) (p : Word) (size : Nat) :
    p + s.delta (BitVec.ofNat 16 size) = advanced s p size := by
  unfold State.delta advanced
  cases s.flags.DF with
  | false => simp [BitVec.ofInt_add]
  | true => simp [Int.sub_eq_add_neg, BitVec.ofInt_add, BitVec.ofInt_neg]

/-- An override redirects the source (spec/20_memory.md R75). -/
theorem State.dataSeg_ds (s : State) :
    s.dataSeg .ds = match s.segOverride with
      | some q => s.sr q
      | none => s.sr .ds := by
  cases ho : s.segOverride <;> simp [State.dataSeg, ho]

/-- With the repeat latch empty a string instruction is its element. -/
theorem stringOp_of_none {s : State} (h : s.repMode = none) (compares : Bool) (element : State → State) :
    stringOp compares element s = element s := by
  rw [stringOp, h]

theorem completes_element {i : Instr} {s : State} {P : State → Prop} {compares : Bool} {element : State → State}
    (hx : exec i s = .next (stringOp compares element s)) (h : s.repMode = none) (hP : P (element s)) :
    Completes i s P :=
  ⟨_, hx, (stringOp_of_none h compares element).symm ▸ hP⟩

/-- An element that leaves the registers alone until it moves DI. -/
theorem regsKeptBut_advanceDi {s t : State} (h : t.regs = s.regs) (size : Word) :
    RegsKeptBut [.di] s (t.advanceDi size) :=
  regsKeptBut_setR16_of_mem (fun q _ => State.r16_congr h q) (by decide) _

/-- An element that leaves the registers alone until it moves both pointers. -/
theorem regsKeptBut_advanceBoth {s t : State} (h : t.regs = s.regs) (size : Word) :
    RegsKeptBut [.si, .di] s ((t.advanceSi size).advanceDi size) :=
  regsKeptBut_setR16_of_mem (regsKeptBut_setR16_of_mem (fun q _ => State.r16_congr h q) (by decide) _) (by decide) _

/-- Settles O54: an element reads before it writes, and moves its pointers last. -/
theorem stringElements : Obligations.StringElements := by
  unfold Obligations.StringElements
  intro s h hrep seg src dst
  have hseg : s.dataSeg .ds = seg := s.dataSeg_ds
  have hsi (size : Nat) := s.add_delta (s.r16 .si) size
  have hdi (size : Nat) := s.add_delta (s.r16 .di) size
  simp only [src, ← hseg]
  refine ⟨?movsb, ?movsw, ?cmpsb, ?cmpsw, ?stosb, ?stosw, ?lodsb, ?lodsw, ?scasb, ?scasw⟩
  case movsb =>
    exact completes_element rfl hrep
      ⟨fun a => State.byteAt_store8 h _ _ a _, hsi 1, hdi 1, regsKeptBut_advanceBoth rfl 1, ordinaryKept_of_data s _ _⟩
  case movsw =>
    exact completes_element rfl hrep
      ⟨State.byteAt_store16 h _ _ _, hsi 2, hdi 2, regsKeptBut_advanceBoth rfl 2, ordinaryKept_of_data s _ _⟩
  case cmpsb =>
    exact completes_element rfl hrep
      ⟨⟨_, subFlags_rule ..⟩, hsi 1, hdi 1, regsKeptBut_advanceBoth rfl 1, fun _ => rfl, ordinaryKept_of_flags s _ _ _⟩
  case cmpsw =>
    exact completes_element rfl hrep
      ⟨⟨_, subFlags_rule ..⟩, hsi 2, hdi 2, regsKeptBut_advanceBoth rfl 2, fun _ => rfl, ordinaryKept_of_flags s _ _ _⟩
  case stosb =>
    exact completes_element rfl hrep
      ⟨fun a => State.byteAt_store8 h _ _ a _, hdi 1, regsKeptBut_advanceDi rfl 1, ordinaryKept_of_data s _ _⟩
  case stosw =>
    exact completes_element rfl hrep
      ⟨State.byteAt_store16 h _ _ _, hdi 2, regsKeptBut_advanceDi rfl 2, ordinaryKept_of_data s _ _⟩
  case lodsb =>
    have hregs : RegsKeptBut [.ax, .si] s (lodsElement8 s) :=
      regsKeptBut_setR16_of_mem (regsKeptBut_setR8_of_mem (fun _ _ => rfl) (by decide) _) (by decide) _
    exact completes_element rfl hrep
      ⟨lowByte_wordOf _ _, highByte_wordOf _ _, hsi 1, hregs, fun _ => rfl, ordinaryKept_of_data s _ _⟩
  case lodsw =>
    have hregs : RegsKeptBut [.ax, .si] s (lodsElement16 s) :=
      regsKeptBut_setR16_of_mem (regsKeptBut_setR16_of_mem (fun _ _ => rfl) (by decide) _) (by decide) _
    exact completes_element rfl hrep ⟨rfl, hsi 2, hregs, fun _ => rfl, ordinaryKept_of_data s _ _⟩
  case scasb =>
    exact completes_element rfl hrep
      ⟨⟨_, subFlags_rule ..⟩, hdi 1, regsKeptBut_advanceDi rfl 1, fun _ => rfl, ordinaryKept_of_flags s _ _ _⟩
  case scasw =>
    exact completes_element rfl hrep
      ⟨⟨_, subFlags_rule ..⟩, hdi 2, regsKeptBut_advanceDi rfl 2, fun _ => rfl, ordinaryKept_of_flags s _ _ _⟩

/-! ### What every element leaves alone -/

theorem ordinaryKept_self (s : State) : OrdinaryKept s s := ordinaryKept_of_flags s s.flags s.draws s.regs

/-- What the repeat loop relies on: an element keeps CX and the ordinary frame, and does not see the repeat latch. -/
structure IsElement (element : State → State) : Prop where
  cx : ∀ s, (element s).r16 .cx = s.r16 .cx
  passesRep : ∀ m s, element (withRep m s) = withRep m (element s)
  kept : ∀ s t, OrdinaryKept s t → OrdinaryKept s (element t)

theorem isElement_stosElement8 : IsElement stosElement8 :=
  ⟨fun _ => rfl, fun _ _ => rfl, fun _ _ h => h⟩

theorem exec_strings {row : Bool × Instr} (hrow : row ∈ strings) :
    ∃ element, IsElement element ∧ ∀ s, exec row.2 s = .next (stringOp row.1 element s) := by
  fin_cases hrow
  all_goals
    refine ⟨_, ?_, fun _ => rfl⟩
    exact ⟨fun _ => rfl, fun _ _ => rfl, fun _ _ h => h⟩

/-! ### The repeat loop -/

section
variable {element : State → State} {s : State} {m : RepMode} {compares : Bool}

/-- When the loop ends early (R341). -/
theorem compares_and_stops_iff {zf : Bool} :
    (compares && m.stops zf) = true ↔ compares = true ∧ (m = .rep ∧ zf = false ∨ m = .repne ∧ zf = true) := by
  cases m <;> simp [RepMode.stops]

theorem stringOp_of_some (h : s.repMode = some m) :
    stringOp compares element s = repeatLoop compares m element (s.r16 .cx).toNat s := by
  rw [stringOp, h]
  rfl

theorem stringOp_of_cx_zero (h : s.repMode = some m) (hcx : (s.r16 .cx).toNat = 0) :
    stringOp compares element s = s := by
  rw [stringOp_of_some h, hcx, repeatLoop]

theorem State.r16_decCx (s : State) (q : Reg16) : s.decCx.r16 q = if q = .cx then s.r16 .cx - 1 else s.r16 q :=
  State.r16_setR16 ..

theorem IsElement.cx_decCx (he : IsElement element) (s : State) : (element s).decCx.r16 .cx = s.r16 .cx - 1 := by
  rw [State.r16_decCx, if_pos rfl, he.cx]

theorem IsElement.kept_decCx (he : IsElement element) {t : State} (h : OrdinaryKept s t) :
    OrdinaryKept s (element t).decCx :=
  he.kept s t h

theorem IsElement.repMode_decCx (he : IsElement element) (h : s.repMode = some m) :
    (element s).decCx.repMode = some m := by
  obtain ⟨-, -, -, -, -, hlatch, -⟩ := he.kept_decCx (ordinaryKept_self s)
  exact hlatch.trans h

/-- One turn of the loop (R341). -/
theorem IsElement.stringOp_turn (he : IsElement element) (h : s.repMode = some m) (hcx : (s.r16 .cx).toNat ≠ 0) :
    stringOp compares element s =
      if compares && m.stops (element s).decCx.flags.ZF then (element s).decCx
      else stringOp compares element (element s).decCx := by
  obtain ⟨n, hn⟩ := Nat.exists_eq_succ_of_ne_zero hcx
  have hleft : ((element s).decCx.r16 .cx).toNat = n := by
    rw [he.cx_decCx]
    bv_omega
  rw [stringOp_of_some h, stringOp_of_some (he.repMode_decCx h), hn, hleft]
  rfl

/-- The element of a turn may be read with the latch empty, which it does not see, and the latch set again after it. -/
theorem IsElement.decCx_eq_withRep (he : IsElement element) (h : s.repMode = some m) (hcx : (s.r16 .cx).toNat ≠ 0) :
    (element s).decCx = withRep (some m)
      ((element (withRep none s)).setR16 .cx (BitVec.ofNat 16 ((s.r16 .cx).toNat - 1))) := by
  have hcount : (element s).regs.cx - 1 = BitVec.ofNat 16 ((s.r16 .cx).toNat - 1) := by
    rw [show (element s).regs.cx = s.r16 .cx from he.cx s]
    bv_omega
  rw [he.passesRep, ← he.repMode_decCx h, ← hcount]
  rfl

end

/-- Settles O55: one turn of the loop, with the element read with the latch empty. (`repeatLoop` is the model's own
loop.) -/
theorem repeatLoopByTurns : Obligations.RepeatLoop := by
  unfold Obligations.RepeatLoop
  intro row hrow m s h
  obtain ⟨element, he, hx⟩ := exec_strings hrow
  refine ⟨fun hcx => ?_, fun hcx => ⟨element (withRep none s), ?_, ?_⟩⟩
  · rw [hx, stringOp_of_cx_zero h hcx]
  · rw [hx, stringOp_of_none rfl]
  · simp only [← he.decCx_eq_withRep h hcx, hx, he.stringOp_turn h hcx, compares_and_stops_iff,
      apply_ite Host.Outcome.next]

/-! ### The loop as a whole -/

/-- The loop performs some `k` of its turns, all of them when nothing is compared, and each takes one from CX. -/
theorem IsElement.repeatLoop_cx {element : State → State} (he : IsElement element) (compares : Bool) (m : RepMode)
    (n : Nat) (s : State) : ∃ k ≤ n, (repeatLoop compares m element n s).r16 .cx = s.r16 .cx - BitVec.ofNat 16 k ∧
      (compares = false → k = n) := by
  induction n generalizing s with
  | zero => exact ⟨0, le_rfl, by simp [repeatLoop], fun _ => rfl⟩
  | succ n ih =>
    simp only [repeatLoop]
    split
    next hstop =>
      refine ⟨1, by omega, he.cx_decCx s, fun hc => ?_⟩
      simp [hc] at hstop
    next =>
      obtain ⟨k, hk, hcx, hall⟩ := ih (element s).decCx
      refine ⟨k + 1, by omega, ?_, fun hc => by rw [hall hc]⟩
      rw [hcx, he.cx_decCx, BitVec.ofNat_add]
      bv_omega

theorem IsElement.kept_stringOp {element : State → State} (he : IsElement element) (compares : Bool) (s : State) :
    OrdinaryKept s (stringOp compares element s) := by
  cases h : s.repMode with
  | none =>
    rw [stringOp_of_none h]
    exact he.kept s s (ordinaryKept_self s)
  | some m =>
    rw [stringOp_of_some h]
    exact repeatLoop_keeps (P := OrdinaryKept s) (fun _ ht => he.kept_decCx ht) compares m _ (ordinaryKept_self s)

/-- CX ends at 0 where a loop compares nothing, and never above where it began. -/
theorem IsElement.cx_stringOp {element : State → State} (he : IsElement element) (compares : Bool) (s : State) :
    (compares = false → s.repMode ≠ none → (stringOp compares element s).r16 .cx = 0) ∧
    ((stringOp compares element s).r16 .cx).toNat ≤ (s.r16 .cx).toNat := by
  cases h : s.repMode with
  | none =>
    rw [stringOp_of_none h, he.cx]
    exact ⟨fun _ hrep => absurd rfl hrep, le_rfl⟩
  | some m =>
    obtain ⟨k, hk, hcx, hall⟩ := he.repeatLoop_cx compares m (s.r16 .cx).toNat s
    rw [stringOp_of_some h, hcx]
    refine ⟨fun hc _ => ?_, by bv_omega⟩
    rw [hall hc]
    simp

/-- Settles O56: the loop runs on CX, which each turn lowers, and keeps the ordinary frame. -/
theorem repeatEnds : Obligations.RepeatEnds := by
  unfold Obligations.RepeatEnds
  intro row hrow s
  obtain ⟨element, he, hx⟩ := exec_strings hrow
  obtain ⟨hzero, hle⟩ := he.cx_stringOp row.1 s
  obtain ⟨hip, hsregs, hquiet⟩ := he.kept_stringOp row.1 s
  exact ⟨_, hx s, hzero, hle, hsregs, hip, hquiet⟩

/-! ### REP STOSB -/

/-- `n` elements of STOSB upward, from `s` to `t`: the bytes at ES:DI and on are AL, where the bus takes them. -/
structure Filled (s : State) (n : Nat) (t : State) : Prop where
  bytes : ∀ a, t.byteAt a =
    if (∃ k < n, a = phys (s.sr .es) (s.r16 .di + BitVec.ofNat 16 k)) ∧ isWritable s.areas a = true then s.r8 .al
    else s.byteAt a
  di : t.r16 .di = s.r16 .di + BitVec.ofNat 16 n
  regs : RegsKeptBut [.di, .cx] s t
  mem_wf : Memory.wf t.mem = true
  flags : t.flags = s.flags
  kept : OrdinaryKept s t

theorem filled_zero {s : State} (h : Memory.wf s.mem = true) : Filled s 0 s where
  bytes a := by simp
  di := by simp
  regs _ _ := rfl
  mem_wf := h
  flags := rfl
  kept := ordinaryKept_self s

/-- AL is the low byte of AX, which the loop leaves alone. -/
theorem Filled.al {s t : State} {n : Nat} (h : Filled s n t) : t.r8 .al = s.r8 .al :=
  congrArg lowByte (h.regs .ax (by decide))

/-- The next element goes to the next offset. -/
theorem Filled.succ {s t : State} {n : Nat} (hdf : s.flags.DF = false) (h : Filled s n t) :
    Filled s (n + 1) (stosElement8 t).decCx where
  bytes a := by
    obtain ⟨-, hsregs, -, -, -, -, -, hareas, -⟩ := h.kept
    have hstore : (stosElement8 t).decCx.byteAt a =
        if a = phys (s.sr .es) (s.r16 .di + BitVec.ofNat 16 n) ∧ isWritable s.areas a = true then s.r8 .al
        else t.byteAt a := by
      rw [← hsregs, ← h.di, ← hareas, ← h.al]
      exact State.byteAt_store8 h.mem_wf _ _ a _
    have hoffsets : (∃ k < n + 1, a = phys (s.sr .es) (s.r16 .di + BitVec.ofNat 16 k)) ↔
        a = phys (s.sr .es) (s.r16 .di + BitVec.ofNat 16 n) ∨
          ∃ k < n, a = phys (s.sr .es) (s.r16 .di + BitVec.ofNat 16 k) :=
      Nat.exists_lt_succ_right.trans or_comm
    simp only [hstore, h.bytes, hoffsets, or_and_right, ite_or]
  di := by
    have hdelta : t.delta 1 = 1 := by rw [State.delta, h.flags, hdf]; rfl
    calc (stosElement8 t).decCx.r16 .di
      _ = t.r16 .di + t.delta 1 := rfl
      _ = s.r16 .di + BitVec.ofNat 16 (n + 1) := by rw [hdelta, h.di, BitVec.ofNat_add, ← BitVec.add_assoc]; rfl
  regs := regsKeptBut_setR16_of_mem (regsKeptBut_setR16_of_mem h.regs (r := .di) (by decide) _) (r := .cx) (by decide) _
  mem_wf := State.store8_wf h.mem_wf _ _ _
  flags := h.flags
  kept := h.kept

/-- Without a comparison every turn of the loop is the same. -/
theorem repeatLoop_eq_iterate (m : RepMode) (element : State → State) (n : Nat) (s : State) :
    repeatLoop false m element n s = (fun t => (element t).decCx)^[n] s := by
  induction n generalizing s with
  | zero => rfl
  | succ n ih => exact ih (element s).decCx

theorem filled_repeatLoop {s : State} (h : Memory.wf s.mem = true) (hdf : s.flags.DF = false) (m : RepMode) (n : Nat) :
    Filled s n (repeatLoop false m stosElement8 n s) := by
  rw [repeatLoop_eq_iterate]
  induction n with
  | zero => exact filled_zero h
  | succ n ih =>
    rw [Function.iterate_succ_apply']
    exact ih.succ hdf

/-- Settles O57: the loop runs CX times, and every turn fills one byte more. -/
theorem repStosbFills : Obligations.RepStosbFills := by
  unfold Obligations.RepStosbFills
  intro s m h hrep hdf
  have hfilled : Filled s (s.r16 .cx).toNat (stringOp false stosElement8 s) :=
    stringOp_of_some hrep ▸ filled_repeatLoop h hdf m (s.r16 .cx).toNat
  obtain ⟨hzero, -⟩ := isElement_stosElement8.cx_stringOp false s
  refine ⟨_, rfl, hfilled.bytes, ?_, hzero rfl (by simp [hrep]), hfilled.regs, hfilled.flags, hfilled.kept⟩
  rw [hfilled.di, BitVec.toNat_add, BitVec.ofNat_toNat, BitVec.setWidth_eq]

end Sys2Proof.Machine
end

section
/-! SUPPORT. Port input and output (spec/47_io.md): one law for a callback, one for a byte read from a port and one for a
byte written to it; the eight forms are these, once or twice, and for IN one write of the accumulator. Settles O58. -/

namespace Sys2Proof.Machine

open Sys2Proof.Stated

/-! ### A callback and a byte access -/

/-- A device's writes are bus writes, one after the other (spec/20_memory.md R74). -/
theorem mem_foldl_busWrite8 (writes : List (Addr × Byte)) (s : State) :
    (writes.foldl (fun u w => u.busWrite8 w.1 w.2) s).mem =
      writes.foldl (fun m w => memAfterWrite s.areas m w.1 w.2) s.mem := by
  induction writes generalizing s with
  | nil => rfl
  | cons w writes ih => exact ih (s.busWrite8 w.1 w.2)

/-- The input stream answers while it lasts (R71). -/
theorem State.head?_answers (s : State) (q : PortRequest) (h : s.answers ≠ []) :
    s.answers.head? = some (s.answerTo q) := by
  unfold State.answerTo
  cases ha : s.answers with
  | nil => exact absurd ha h
  | cons a rest => rfl

/-- A callback is recorded, takes its answer from the stream and makes the device's writes; no register, flag or map
changes (R71, R72, R74). -/
theorem State.callback_effect (s : State) (q : PortRequest) :
    let t := s.callback q
    t.portLog = s.portLog ++ [⟨q, s.answerTo q⟩] ∧ t.answers = s.answers.tail ∧
    t.mem = ((s.answerTo q).writes.foldl (fun u w => u.busWrite8 w.1 w.2) s).mem ∧
    t.regs = s.regs ∧ t.sregs = s.sregs ∧ t.ip = s.ip ∧ t.flags = s.flags ∧ t.runState = s.runState ∧
    t.fault = s.fault ∧ t.segOverride = s.segOverride ∧ t.repMode = s.repMode ∧ t.ip0 = s.ip0 ∧
    t.areas = s.areas ∧ t.ports = s.ports :=
  ⟨rfl, rfl, (mem_foldl_busWrite8 _ s).symm, rfl, rfl, rfl, rfl, rfl, rfl, rfl, rfl, rfl, rfl, rfl⟩

theorem State.registered_iff (s : State) (port : Word) : s.registered port = true ↔ port ∈ s.ports :=
  List.contains_iff_mem

theorem portReads_portRead8 (s : State) (port : Word) : PortReads s port (s.portByte port) (s.portRead8 port) := by
  unfold State.portByte State.portRead8
  split
  · rename_i h
    exact .inr ⟨(s.registered_iff port).mp h, _, s.head?_answers _, rfl, s.callback_effect _⟩
  · rename_i h
    exact .inl ⟨mt (s.registered_iff port).mpr h, rfl, rfl⟩

theorem portWrites_portWrite8 (s : State) (port : Word) (v : Byte) : PortWrites s port v (s.portWrite8 port v) := by
  unfold State.portWrite8
  split
  · rename_i h
    exact .inr ⟨(s.registered_iff port).mp h, _, s.head?_answers _, s.callback_effect _⟩
  · rename_i h
    exact .inl ⟨mt (s.registered_iff port).mpr h, rfl⟩

/-! ### The accumulator -/

/-- A byte register is written in any memory, canonical or not. -/
theorem writes8_setR8 (s : State) (r : Reg8) (v : Byte) : Writes8 s (s.setR8 r v) (.reg r) v :=
  ⟨by simp, fun q hq => by simp [hq], fun _ hq => s.r16_setR8_pointer hq r v, fun _ => rfl⟩

/-- IN AL: the callback, then AL (R364). -/
theorem inByte_setR8 (s : State) (port : Word) :
    InByte s ((s.portRead8 port).setR8 .al (s.portByte port)) port :=
  ⟨_, _, portReads_portRead8 s port, s.portRead8_flags port, (ordinaryKept_of_data (s.portRead8 port) _ _).2,
    writes8_setR8 _ .al _⟩

/-- IN AX: both callbacks, then AX (R73, R364). -/
theorem inWord_setR16 (s : State) (port : Word) :
    InWord s ((s.portRead16 port).setR16 .ax (s.portWord port)) port :=
  ⟨_, _, _, _, portReads_portRead8 s port, portReads_portRead8 _ (port + 1), s.portRead16_flags port,
    (ordinaryKept_of_data (s.portRead16 port) _ _).2, wordOf_toNat _ _, State.regsKeptBut_setR16 _ .ax _, fun _ => rfl⟩

/-- OUT of AX: AL, then AH (R73). -/
theorem outWord_portWrite16 (s : State) (port : Word) : OutWord s (s.portWrite16 port (s.r16 .ax)) port :=
  ⟨_, portWrites_portWrite8 s port _, portWrites_portWrite8 _ (port + 1) _⟩

/-- Settles O58: the byte forms access the port once, the word forms twice, on the zero-extended byte or DX. -/
theorem inAndOut : Obligations.InAndOut := by
  unfold Obligations.InAndOut
  intro s ib
  rw [BitVec.ofNat_toNat]
  exact ⟨⟨_, rfl, inByte_setR8 s _⟩, ⟨_, rfl, inWord_setR16 s _⟩, ⟨_, rfl, inByte_setR8 s _⟩, ⟨_, rfl, inWord_setR16 s _⟩,
    ⟨_, rfl, portWrites_portWrite8 s _ _⟩, ⟨_, rfl, outWord_portWrite16 s _⟩,
    ⟨_, rfl, portWrites_portWrite8 s _ _⟩, ⟨_, rfl, outWord_portWrite16 s _⟩⟩

end Sys2Proof.Machine
end

section
/-! SUPPORT. A repeat prefix before an instruction that is no string instruction, the prefixes and HLT, Halted and
Faulted, InvalidOpcode, reset and the maps (spec/48_prefix_halt.md, spec/60_exceptions.md,
spec/70_reset_and_hazards.md). Settles O18, O19, O14, O10, O53 and O59. -/

namespace Sys2Proof.Machine

open Sys2Proof.Stated

/-! ### The repeat latch is passed on, and not read -/

section
variable (m : Option RepMode) (s : State)

theorem State.jumpRelative_withRep (b : Bool) (disp : Word) :
    (withRep m s).jumpRelative b disp = withRep m (s.jumpRelative b disp) :=
  (apply_ite (withRep m) (b = true) (s.setIp (s.ip + disp)) s).symm

theorem State.portRead8_withRep (p : Word) : (withRep m s).portRead8 p = withRep m (s.portRead8 p) :=
  (apply_ite (withRep m) (s.registered p = true) (s.callback (.read p)) s).symm

theorem State.portWrite8_withRep (p : Word) (v : Byte) : (withRep m s).portWrite8 p v = withRep m (s.portWrite8 p v) :=
  (apply_ite (withRep m) (s.registered p = true) (s.callback (.write p v)) s).symm

theorem State.portRead16_withRep (p : Word) : (withRep m s).portRead16 p = withRep m (s.portRead16 p) := by
  simp only [State.portRead16, State.portRead8_withRep]

theorem State.portWrite16_withRep (p v : Word) : (withRep m s).portWrite16 p v = withRep m (s.portWrite16 p v) := by
  simp only [State.portWrite16, State.portWrite8_withRep]

theorem State.portWord_withRep (p : Word) : (withRep m s).portWord p = s.portWord p := by
  simp only [State.portWord, State.portRead8_withRep]
  rfl

theorem State.inByte_withRep (p : Word) :
    ((withRep m s).portRead8 p).setR8 .al ((withRep m s).portByte p) =
      withRep m ((s.portRead8 p).setR8 .al (s.portByte p)) := by
  rw [State.portRead8_withRep]
  rfl

theorem State.inWord_withRep (p : Word) :
    ((withRep m s).portRead16 p).setR16 .ax ((withRep m s).portWord p) =
      withRep m ((s.portRead16 p).setR16 .ax (s.portWord p)) := by
  rw [State.portRead16_withRep, State.portWord_withRep]
  rfl

/-! A division that raises empties the latch itself (R382), so here only the ends of the steps agree. -/

theorem stepEnd_div8_withRep (d : Byte) : stepEnd (div8 d (withRep m s)) = stepEnd (div8 d s) := by
  simp only [div8, apply_ite stepEnd]
  rfl

theorem stepEnd_div16_withRep (d : Word) : stepEnd (div16 d (withRep m s)) = stepEnd (div16 d s) := by
  simp only [div16, apply_ite stepEnd]
  rfl

theorem stepEnd_idiv8_withRep (d : Byte) : stepEnd (idiv8 d (withRep m s)) = stepEnd (idiv8 d s) := by
  simp only [idiv8, apply_ite stepEnd]
  rfl

theorem stepEnd_idiv16_withRep (d : Word) : stepEnd (idiv16 d (withRep m s)) = stepEnd (idiv16 d s) := by
  simp only [idiv16, apply_ite stepEnd]
  rfl

end

/-- The end of a step empties the repeat latch. -/
theorem stepOutcome_next_of_eq_withRep {m : Option RepMode} {t u : State} (h : t = withRep m u) :
    stepOutcome (.next t) = stepOutcome (.next u) :=
  h ▸ rfl

/-- Settles O18: no update reads the latch, whichever way it branches: on the kind of an operand, on a jump's condition,
on a port's registration, on a division's tests. Every other meaning updates the state without branching. -/
theorem repeatIgnoredByOthers : Obligations.RepeatIgnoredByOthers := by
  unfold Obligations.RepeatIgnoredByOthers
  intro i s m hprefix hstring
  cases i with
  | movsb | movsw | stosb | stosw | lodsb | lodsw => exact absurd (by simp [strings]) (hstring false)
  | cmpsb | cmpsw | scasb | scasw => exact absurd (by simp [strings]) (hstring true)
  | prefixEs | prefixCs | prefixSs | prefixDs | prefixRepne | prefixRep => cases hprefix
  | addRm8R8 | addRm16R16 | addRm8Ib | addRm16Iw | addRm8IbAlt | addRm16Ib
  | orRm8R8 | orRm16R16 | orRm8Ib | orRm16Iw | orRm8IbAlt | orRm16Ib
  | adcRm8R8 | adcRm16R16 | adcRm8Ib | adcRm16Iw | adcRm8IbAlt | adcRm16Ib
  | sbbRm8R8 | sbbRm16R16 | sbbRm8Ib | sbbRm16Iw | sbbRm8IbAlt | sbbRm16Ib
  | andRm8R8 | andRm16R16 | andRm8Ib | andRm16Iw | andRm8IbAlt | andRm16Ib
  | subRm8R8 | subRm16R16 | subRm8Ib | subRm16Iw | subRm8IbAlt | subRm16Ib
  | xorRm8R8 | xorRm16R16 | xorRm8Ib | xorRm16Iw | xorRm8IbAlt | xorRm16Ib
  | incRm8 | incRm16 | decRm8 | decRm16 | negRm8 | negRm16 | notRm8 | notRm16
  | rolRm8One | rolRm16One | rolRm8Cl | rolRm16Cl | rorRm8One | rorRm16One | rorRm8Cl | rorRm16Cl
  | rclRm8One | rclRm16One | rclRm8Cl | rclRm16Cl | rcrRm8One | rcrRm16One | rcrRm8Cl | rcrRm16Cl
  | shlRm8One | shlRm16One | shlRm8Cl | shlRm16Cl | shrRm8One | shrRm16One | shrRm8Cl | shrRm16Cl
  | sarRm8One | sarRm16One | sarRm8Cl | sarRm16Cl
  | movRm8R8 | movRm16R16 | movRm16Sreg | movRm8Ib | movRm16Iw | xchgRm8R8 | xchgRm16R16 | popRm16 =>
    cases ‹Rm _› <;> rfl
  | jo | jno | jb | jnb | je | jne | jbe | jnbe | js | jns | jp | jnp | jl | jnl | jle | jnle | jmpShort | jmpNear
  | jcxz =>
    exact stepOutcome_next_of_eq_withRep (s.jumpRelative_withRep m _ _)
  | loopne | loope | loop => exact stepOutcome_next_of_eq_withRep (s.decCx.jumpRelative_withRep m _ _)
  | inAlIb | inAlDx => exact stepOutcome_next_of_eq_withRep (s.inByte_withRep m _)
  | inAxIb | inAxDx => exact stepOutcome_next_of_eq_withRep (s.inWord_withRep m _)
  | outIbAl | outDxAl => exact stepOutcome_next_of_eq_withRep (s.portWrite8_withRep m _ _)
  | outIbAx | outDxAx => exact stepOutcome_next_of_eq_withRep (s.portWrite16_withRep m _ _)
  | divRm8 => exact congrArg Host.Outcome.next (stepEnd_div8_withRep m s _)
  | divRm16 => exact congrArg Host.Outcome.next (stepEnd_div16_withRep m s _)
  | idivRm8 => exact congrArg Host.Outcome.next (stepEnd_idiv8_withRep m s _)
  | idivRm16 => exact congrArg Host.Outcome.next (stepEnd_idiv16_withRep m s _)
  | _ => rfl

/-! ### The prefixes and HLT -/

/-- Settles O53: every row decodes from its encoding and sets its latch. -/
theorem prefixesAndHalt : Obligations.PrefixesAndHalt := by
  unfold Obligations.PrefixesAndHalt
  intro s rest
  refine ⟨fun row hrow => ?_, fun row hrow => ?_, decode_of_encode rfl rfl, rfl⟩
  · fin_cases hrow <;> exact ⟨decode_of_encode rfl rfl, rfl, rfl⟩
  · fin_cases hrow <;> exact ⟨decode_of_encode rfl rfl, rfl, rfl⟩

/-! ### InvalidOpcode -/

/-- Settles O19: both invalid forms raise at once; the step enters them with IP past the fetched bytes and `ip0` at the
first of them. -/
theorem invalidOpcodeFaults : Obligations.InvalidOpcodeFaults := by
  unfold Obligations.InvalidOpcodeFaults
  refine ⟨fun op s => ⟨_, rfl, rfl⟩, fun op g rm s => ⟨_, rfl, rfl⟩, ?_⟩
  intro s ps i hrun hw hi hps hlen hfetch
  obtain ⟨hprefix, hraise⟩ : isPrefix i = false ∧ ∀ u, exec i u = .next (u.raise .invalidOpcode) := by
    obtain ⟨op, rfl⟩ | ⟨op, g, rm, rfl⟩ := hi <;> exact ⟨rfl, fun _ => rfl⟩
  rw [stepRunsPrefixed s ps i hrun hw hprefix hps hlen hfetch, hraise]
  rfl

/-! ### Halted and Faulted, reset -/

theorem State.resetAgain_of_faulted {s : State} (h : s.runState = .faulted) : s.resetAgain = s := if_pos h

/-- Settles O10: neither run state is runnable. -/
theorem haltedAndFaultedStay : Obligations.HaltedAndFaultedStay := by
  unfold Obligations.HaltedAndFaultedStay
  intro s
  refine ⟨fun h => step_of_not_runnable ?_, fun h => ⟨step_of_not_runnable ?_, s.resetAgain_of_faulted h⟩⟩
  · simp only [State.runnable, h]
  · simp only [State.runnable, h]

/-- The FLAGS word that both kinds of reset leave (R410). -/
theorem reset_flags_toWord : State.reset.flags.toWord = 0x0000 := rfl

/-- Settles O59: reset writes the registers, FLAGS, the latches and the run state, and no other field. -/
theorem resetValues : Obligations.ResetValues := by
  unfold Obligations.ResetValues
  refine ⟨⟨rfl, rfl, reset_flags_toWord, rfl, rfl, rfl, rfl⟩, fun s => ⟨fun h => ?_, State.resetAgain_of_faulted⟩⟩
  rw [State.resetAgain, if_neg h]
  exact ⟨rfl, rfl, reset_flags_toWord, rfl, rfl, rfl, rfl, fun _ => rfl, rfl, rfl, rfl, rfl⟩

/-! ### The maps -/

theorem Effect.maps {i : Instr} {s t : State} (h : Effect i s t) : t.areas = s.areas ∧ t.ports = s.ports := by
  obtain hreach | ⟨c, rfl⟩ | ⟨-, rfl⟩ := h
  · obtain ⟨hareas, hports, -⟩ := hreach.maps
    exact ⟨hareas, hports⟩
  · exact ⟨rfl, rfl⟩
  · exact ⟨rfl, rfl⟩

/-- Settles O14: the prefixes and the instruction keep both maps, and the two ends of a step do not touch them. -/
theorem mapsAreConstant : Obligations.MapsAreConstant := by
  unfold Obligations.MapsAreConstant
  intro s t hstep
  obtain ⟨-, rfl⟩ | ⟨-, u, i, v, hu, -, -, hv, rfl⟩ := step_next hstep
  · exact ⟨rfl, rfl⟩
  · obtain ⟨huareas, huports, -⟩ := hu.maps
    obtain ⟨hvareas, hvports⟩ := hv.maps
    exact ⟨hvareas.trans huareas, hvports.trans huports⟩

end Sys2Proof.Machine
end
